-- ==== Sys2Proof/Word.lean ====
section
/-! DEFINITION. The word widths of the machine (00_scope.md rule R6). -/

namespace Sys2Proof

/-- One byte of the data path: every register of the register file, and W (R6). -/
abbrev Byte := BitVec 8

/-- A 13-bit program address (R21). -/
abbrev ProgAddr := BitVec 13

/-- One 14-bit instruction word (R110). -/
abbrev CodeWord := BitVec 14

end Sys2Proof
end

