-- ==== Sys2Proof/Machine/Bits.lean ====
section
/-! DEFINITION. Writing one bit of a register (00_scope.md rule R8). -/

namespace Sys2Proof.Machine

/-- The value `v` with its bit `i` set to `b` (bit 0 the least significant, R8). -/
def putBit {n : Nat} (v : BitVec n) (i : Nat) (b : Bool) : BitVec n :=
  if b then v ||| BitVec.twoPow n i else v &&& ~~~(BitVec.twoPow n i)

end Sys2Proof.Machine
end

