-- ==== Sys2Proof/Config.lean ====
section
/-! DEFINITION. What an implementation or a run fixes (00_scope.md rule R7), and the free values the
spec draws from the environment (`draw(N)` of rule R10). -/

namespace Sys2Proof

/-- How Timer0 counts (60_exceptions.md rule R246): `draw` lets its agent step at any boundary,
`cycle` applies the counting laws with the cycle counts of rule R298. -/
inductive Tmr0Policy where
  | draw
  | cycle
deriving DecidableEq, Repr

/-- The parameters of a run that are plain switches (R7): whether the watchdog runs, and how Timer0
is modelled. They are fixed before a run, and no step changes them. -/
structure Config where
  wdtEnabled : Bool
  tmr0Policy : Tmr0Policy
deriving DecidableEq, Repr

/-- Free value (log 7): the level of RA4..RA0 the environment drives at the n-th draw (R252, U14). -/
opaque Config.pinsA : Nat → BitVec 5

/-- Free value (log 7): the level of RB7..RB0 the environment drives at the n-th draw (R252, U14). -/
opaque Config.pinsB : Nat → Byte

/-- Free value (log 10): whether a data EEPROM write starts when WR is set with WREN = 1 outside the
unlock sequence (R260, U10). -/
opaque Config.eeStartsUnsequenced : Nat → Bool

/-- Free value (log 14): the byte a data EEPROM write leaves when a reset cuts it short (R261, U12). -/
opaque Config.eeTornByte : Nat → Byte

end Sys2Proof
end

