-- ==== Sys2Proof/Syntax.lean ====
section
/-! DEFINITION. The instructions: one constructor per instruction of spec/opcode_table.json (its three
TRIS rows are one instruction with an operand), operands as 30_encoding.md rule R117 gives them. -/

namespace Sys2Proof

/-- The destination select `d` (R117, R141): W when d = 0, the file register when d = 1. -/
inductive Dest where
  | w
  | f
deriving DecidableEq, Repr

/-- The `d` bit of a destination. -/
def Dest.bit : Dest → BitVec 1
  | .w => 0#1
  | .f => 1#1

/-- The destination a `d` bit selects. -/
def Dest.ofBool : Bool → Dest
  | false => .w
  | true => .f

/-- The instruction set, in the order of Table 9-2, then OPTION and TRIS. -/
inductive Instr where
  | addwf (d : Dest) (f : BitVec 7)
  | andwf (d : Dest) (f : BitVec 7)
  | clrf (f : BitVec 7)
  | clrw
  | comf (d : Dest) (f : BitVec 7)
  | decf (d : Dest) (f : BitVec 7)
  | decfsz (d : Dest) (f : BitVec 7)
  | incf (d : Dest) (f : BitVec 7)
  | incfsz (d : Dest) (f : BitVec 7)
  | iorwf (d : Dest) (f : BitVec 7)
  | movf (d : Dest) (f : BitVec 7)
  | movwf (f : BitVec 7)
  | nop
  | rlf (d : Dest) (f : BitVec 7)
  | rrf (d : Dest) (f : BitVec 7)
  | subwf (d : Dest) (f : BitVec 7)
  | swapf (d : Dest) (f : BitVec 7)
  | xorwf (d : Dest) (f : BitVec 7)
  | bcf (f : BitVec 7) (b : BitVec 3)
  | bsf (f : BitVec 7) (b : BitVec 3)
  | btfsc (f : BitVec 7) (b : BitVec 3)
  | btfss (f : BitVec 7) (b : BitVec 3)
  | addlw (k : Byte)
  | andlw (k : Byte)
  | call (k : BitVec 11)
  | clrwdt
  | goto (k : BitVec 11)
  | iorlw (k : Byte)
  | movlw (k : Byte)
  | retfie
  | retlw (k : Byte)
  | ret
  | sleep
  | sublw (k : Byte)
  | xorlw (k : Byte)
  | option
  | tris (f : BitVec 3)
deriving DecidableEq, Repr

/-- The mnemonic of an instruction, as spec/opcode_table.json spells it. -/
def Instr.mnemonic : Instr → String
  | .addwf _ _ => "ADDWF"
  | .andwf _ _ => "ANDWF"
  | .clrf _ => "CLRF"
  | .clrw => "CLRW"
  | .comf _ _ => "COMF"
  | .decf _ _ => "DECF"
  | .decfsz _ _ => "DECFSZ"
  | .incf _ _ => "INCF"
  | .incfsz _ _ => "INCFSZ"
  | .iorwf _ _ => "IORWF"
  | .movf _ _ => "MOVF"
  | .movwf _ => "MOVWF"
  | .nop => "NOP"
  | .rlf _ _ => "RLF"
  | .rrf _ _ => "RRF"
  | .subwf _ _ => "SUBWF"
  | .swapf _ _ => "SWAPF"
  | .xorwf _ _ => "XORWF"
  | .bcf _ _ => "BCF"
  | .bsf _ _ => "BSF"
  | .btfsc _ _ => "BTFSC"
  | .btfss _ _ => "BTFSS"
  | .addlw _ => "ADDLW"
  | .andlw _ => "ANDLW"
  | .call _ => "CALL"
  | .clrwdt => "CLRWDT"
  | .goto _ => "GOTO"
  | .iorlw _ => "IORLW"
  | .movlw _ => "MOVLW"
  | .retfie => "RETFIE"
  | .retlw _ => "RETLW"
  | .ret => "RETURN"
  | .sleep => "SLEEP"
  | .sublw _ => "SUBLW"
  | .xorlw _ => "XORLW"
  | .option => "OPTION"
  | .tris _ => "TRIS"

end Sys2Proof
end

