-- ==== Sys2Proof/WellFormed.lean ====
section
/-! DEFINITION. Which terms of Instr are instructions: every operand range of 30_encoding.md rule R117
is carried by its type but one, TRIS's 3-bit `f`, which is 5, 6 or 7. -/

namespace Sys2Proof

/-- Whether a term is an instruction of the machine (R117; TRIS: R221, "5 ≤ f ≤ 7"). -/
def Instr.wellFormed : Instr → Bool
  | .tris f => decide (5 ≤ f.toNat)
  | .addwf _ _ | .andwf _ _ | .clrf _ | .clrw | .comf _ _ | .decf _ _ | .decfsz _ _ => true
  | .incf _ _ | .incfsz _ _ | .iorwf _ _ | .movf _ _ | .movwf _ | .nop => true
  | .rlf _ _ | .rrf _ _ | .subwf _ _ | .swapf _ _ | .xorwf _ _ => true
  | .bcf _ _ | .bsf _ _ | .btfsc _ _ | .btfss _ _ => true
  | .addlw _ | .andlw _ | .call _ | .clrwdt | .goto _ | .iorlw _ | .movlw _ => true
  | .retfie | .retlw _ | .ret | .sleep | .sublw _ | .xorlw _ | .option => true

end Sys2Proof
end

