-- ==== Sys2Proof/Decode.lean ====
section
/-! DEFINITION. The decoder (30_encoding.md rules R111 to R119) and, after it, the encoder (R125). -/

namespace Sys2Proof

/-- Why a number is no instruction. -/
inductive DecodeError where
  /-- A 14-bit word that no row of the opcode map covers (R119). -/
  | reserved (w : CodeWord)
  /-- A number that is no 14-bit word (R110). -/
  | tooWide (n : Nat)
deriving DecidableEq, Repr

/-- The field `f`, bits 6:0 (R117). -/
def fieldF (w : CodeWord) : BitVec 7 := w.extractLsb' 0 7

/-- The field `d`, bit 7 (R117). -/
def fieldD (w : CodeWord) : Dest := Dest.ofBool (w.getLsbD 7)

/-- The field `b`, bits 9:7 (R117). -/
def fieldB (w : CodeWord) : BitVec 3 := w.extractLsb' 7 3

/-- The 8-bit literal, bits 7:0 (R117). -/
def fieldK8 (w : CodeWord) : Byte := w.extractLsb' 0 8

/-- The 11-bit literal, bits 10:0 (R117). -/
def fieldK11 (w : CodeWord) : BitVec 11 := w.extractLsb' 0 11

/-- The no-operand group, `w[13:7] = 0000000`, selected by `w[6:0]` (R118). -/
def decodeNoOperand (w : CodeWord) : Except DecodeError Instr :=
  match (w.extractLsb' 0 7).toNat with
  | 0x00 | 0x20 | 0x40 | 0x60 => .ok .nop
  | 0x08 => .ok .ret
  | 0x09 => .ok .retfie
  | 0x62 => .ok .option
  | 0x63 => .ok .sleep
  | 0x64 => .ok .clrwdt
  | 0x65 | 0x66 | 0x67 => .ok (.tris (w.extractLsb' 0 3))
  | _ => .error (.reserved w)

/-- The byte-oriented space, `w[13:12] = 00`, selected by `w[11:8]` and `w[7]` (R118). -/
def decodeByteOriented (w : CodeWord) : Except DecodeError Instr :=
  match (w.extractLsb' 8 4).toNat with
  | 0 => if w.getLsbD 7 then .ok (.movwf (fieldF w)) else decodeNoOperand w
  | 1 => if w.getLsbD 7 then .ok (.clrf (fieldF w)) else .ok .clrw
  | 2 => .ok (.subwf (fieldD w) (fieldF w))
  | 3 => .ok (.decf (fieldD w) (fieldF w))
  | 4 => .ok (.iorwf (fieldD w) (fieldF w))
  | 5 => .ok (.andwf (fieldD w) (fieldF w))
  | 6 => .ok (.xorwf (fieldD w) (fieldF w))
  | 7 => .ok (.addwf (fieldD w) (fieldF w))
  | 8 => .ok (.movf (fieldD w) (fieldF w))
  | 9 => .ok (.comf (fieldD w) (fieldF w))
  | 10 => .ok (.incf (fieldD w) (fieldF w))
  | 11 => .ok (.decfsz (fieldD w) (fieldF w))
  | 12 => .ok (.rrf (fieldD w) (fieldF w))
  | 13 => .ok (.rlf (fieldD w) (fieldF w))
  | 14 => .ok (.swapf (fieldD w) (fieldF w))
  | _ => .ok (.incfsz (fieldD w) (fieldF w))

/-- The bit-oriented space, `w[13:12] = 01`, selected by `w[11:10]` (R118). -/
def decodeBitOriented (w : CodeWord) : Except DecodeError Instr :=
  match (w.extractLsb' 10 2).toNat with
  | 0 => .ok (.bcf (fieldF w) (fieldB w))
  | 1 => .ok (.bsf (fieldF w) (fieldB w))
  | 2 => .ok (.btfsc (fieldF w) (fieldB w))
  | _ => .ok (.btfss (fieldF w) (fieldB w))

/-- The literal space, `w[13:12] = 11`, selected by `w[11:8]` (R118); 1011 is reserved (R119). -/
def decodeLiteral (w : CodeWord) : Except DecodeError Instr :=
  match (w.extractLsb' 8 4).toNat with
  | 0 | 1 | 2 | 3 => .ok (.movlw (fieldK8 w))
  | 4 | 5 | 6 | 7 => .ok (.retlw (fieldK8 w))
  | 8 => .ok (.iorlw (fieldK8 w))
  | 9 => .ok (.andlw (fieldK8 w))
  | 10 => .ok (.xorlw (fieldK8 w))
  | 11 => .error (.reserved w)
  | 12 | 13 => .ok (.sublw (fieldK8 w))
  | _ => .ok (.addlw (fieldK8 w))

/-- Decoding a 14-bit word (R118), first by `w[13:12]`. -/
def decode (w : CodeWord) : Except DecodeError Instr :=
  match (w.extractLsb' 12 2).toNat with
  | 0 => decodeByteOriented w
  | 1 => decodeBitOriented w
  | 2 => if w.getLsbD 11 then .ok (.goto (fieldK11 w)) else .ok (.call (fieldK11 w))
  | _ => decodeLiteral w

/-- Decoding any number: one that is no 14-bit word is rejected as such. -/
def decodeNat (n : Nat) : Except DecodeError Instr :=
  if n < 2 ^ 14 then decode (BitVec.ofNat 14 n) else .error (.tooWide n)

/-- The instruction the decoder reads from a row of spec/opcode_table.json whose bits are `w`. The
hardware stores an instruction as one word at one address, so there are no bytes to lay out (R88). -/
def decodeTableWord (_nbits w : Nat) : Option Instr :=
  match decodeNat w with
  | .ok i => some i
  | .error _ => none

/-- The byte-oriented format: `00 cccc`, d, f (R111). -/
def encodeByteFD (op : BitVec 4) (d : Dest) (f : BitVec 7) : CodeWord :=
  (0b00#2 ++ op ++ d.bit ++ f : BitVec 14)

/-- The byte-oriented format with bit 7 part of the opcode: CLRF, MOVWF (R111). -/
def encodeByteF (op : BitVec 5) (f : BitVec 7) : CodeWord :=
  (0b00#2 ++ op ++ f : BitVec 14)

/-- The bit-oriented format: `01 cc`, b, f (R112). -/
def encodeBit (op : BitVec 2) (f : BitVec 7) (b : BitVec 3) : CodeWord :=
  (0b01#2 ++ op ++ b ++ f : BitVec 14)

/-- The literal format: `11 cccc`, k (R113). -/
def encodeLiteral (op : BitVec 4) (k : Byte) : CodeWord :=
  (0b11#2 ++ op ++ k : BitVec 14)

/-- The CALL and GOTO format: `10 c`, k (R114). -/
def encodeBranch (op : BitVec 1) (k : BitVec 11) : CodeWord :=
  (0b10#2 ++ op ++ k : BitVec 14)

/-- The word of an instruction, every don't-care bit 0 (R116, R125). -/
def encode : Instr → CodeWord
  | .addwf d f => encodeByteFD 0b0111#4 d f
  | .andwf d f => encodeByteFD 0b0101#4 d f
  | .clrf f => encodeByteF 0b00011#5 f
  | .clrw => 0x0100#14
  | .comf d f => encodeByteFD 0b1001#4 d f
  | .decf d f => encodeByteFD 0b0011#4 d f
  | .decfsz d f => encodeByteFD 0b1011#4 d f
  | .incf d f => encodeByteFD 0b1010#4 d f
  | .incfsz d f => encodeByteFD 0b1111#4 d f
  | .iorwf d f => encodeByteFD 0b0100#4 d f
  | .movf d f => encodeByteFD 0b1000#4 d f
  | .movwf f => encodeByteF 0b00001#5 f
  | .nop => 0x0000#14
  | .rlf d f => encodeByteFD 0b1101#4 d f
  | .rrf d f => encodeByteFD 0b1100#4 d f
  | .subwf d f => encodeByteFD 0b0010#4 d f
  | .swapf d f => encodeByteFD 0b1110#4 d f
  | .xorwf d f => encodeByteFD 0b0110#4 d f
  | .bcf f b => encodeBit 0b00#2 f b
  | .bsf f b => encodeBit 0b01#2 f b
  | .btfsc f b => encodeBit 0b10#2 f b
  | .btfss f b => encodeBit 0b11#2 f b
  | .addlw k => encodeLiteral 0b1110#4 k
  | .andlw k => encodeLiteral 0b1001#4 k
  | .call k => encodeBranch 0#1 k
  | .clrwdt => 0x0064#14
  | .goto k => encodeBranch 1#1 k
  | .iorlw k => encodeLiteral 0b1000#4 k
  | .movlw k => encodeLiteral 0b0000#4 k
  | .retfie => 0x0009#14
  | .retlw k => encodeLiteral 0b0100#4 k
  | .ret => 0x0008#14
  | .sleep => 0x0063#14
  | .sublw k => encodeLiteral 0b1100#4 k
  | .xorlw k => encodeLiteral 0b1010#4 k
  | .option => 0x0062#14
  | .tris f => (0b00000001100#11 ++ f : BitVec 14)

/-- One row of spec/opcode_table.json: the row applies to `w` when `w & mask = bits` (R126). -/
structure OpcodeRow where
  mnemonic : String
  mask : CodeWord
  bits : CodeWord
deriving DecidableEq, Repr

/-- Whether a row applies to a word (R118, R126). -/
def OpcodeRow.applies (r : OpcodeRow) (w : CodeWord) : Bool := (w &&& r.mask) == r.bits

/-- The rows of the byte-oriented operations, transcribed from spec/opcode_table.json; the decoder does not use them. -/
def byteRows : List OpcodeRow :=
  [ ⟨"ADDWF", 0x3f00#14, 0x0700#14⟩
  , ⟨"ANDWF", 0x3f00#14, 0x0500#14⟩
  , ⟨"CLRF", 0x3f80#14, 0x0180#14⟩
  , ⟨"CLRW", 0x3f80#14, 0x0100#14⟩
  , ⟨"COMF", 0x3f00#14, 0x0900#14⟩
  , ⟨"DECF", 0x3f00#14, 0x0300#14⟩
  , ⟨"DECFSZ", 0x3f00#14, 0x0B00#14⟩
  , ⟨"INCF", 0x3f00#14, 0x0A00#14⟩
  , ⟨"INCFSZ", 0x3f00#14, 0x0F00#14⟩
  , ⟨"IORWF", 0x3f00#14, 0x0400#14⟩
  , ⟨"MOVF", 0x3f00#14, 0x0800#14⟩
  , ⟨"MOVWF", 0x3f80#14, 0x0080#14⟩
  , ⟨"NOP", 0x3f9f#14, 0x0000#14⟩
  , ⟨"RLF", 0x3f00#14, 0x0D00#14⟩
  , ⟨"RRF", 0x3f00#14, 0x0C00#14⟩
  , ⟨"SUBWF", 0x3f00#14, 0x0200#14⟩
  , ⟨"SWAPF", 0x3f00#14, 0x0E00#14⟩
  , ⟨"XORWF", 0x3f00#14, 0x0600#14⟩ ]

/-- The rows of the bit-oriented operations, transcribed from spec/opcode_table.json; the decoder does not use them. -/
def bitRows : List OpcodeRow :=
  [ ⟨"BCF", 0x3c00#14, 0x1000#14⟩
  , ⟨"BSF", 0x3c00#14, 0x1400#14⟩
  , ⟨"BTFSC", 0x3c00#14, 0x1800#14⟩
  , ⟨"BTFSS", 0x3c00#14, 0x1C00#14⟩ ]

/-- The rows of the literal and control operations, transcribed from spec/opcode_table.json; the decoder does not use them. -/
def literalRows : List OpcodeRow :=
  [ ⟨"ADDLW", 0x3e00#14, 0x3E00#14⟩
  , ⟨"ANDLW", 0x3f00#14, 0x3900#14⟩
  , ⟨"CALL", 0x3800#14, 0x2000#14⟩
  , ⟨"CLRWDT", 0x3fff#14, 0x0064#14⟩
  , ⟨"GOTO", 0x3800#14, 0x2800#14⟩
  , ⟨"IORLW", 0x3f00#14, 0x3800#14⟩
  , ⟨"MOVLW", 0x3c00#14, 0x3000#14⟩
  , ⟨"RETFIE", 0x3fff#14, 0x0009#14⟩
  , ⟨"RETLW", 0x3c00#14, 0x3400#14⟩
  , ⟨"RETURN", 0x3fff#14, 0x0008#14⟩
  , ⟨"SLEEP", 0x3fff#14, 0x0063#14⟩
  , ⟨"SUBLW", 0x3e00#14, 0x3C00#14⟩
  , ⟨"XORLW", 0x3f00#14, 0x3A00#14⟩ ]

/-- The rows of OPTION and TRIS, transcribed from spec/opcode_table.json; the decoder does not use them. -/
def compatRows : List OpcodeRow :=
  [ ⟨"OPTION", 0x3fff#14, 0x0062#14⟩
  , ⟨"TRIS", 0x3fff#14, 0x0065#14⟩
  , ⟨"TRIS", 0x3fff#14, 0x0066#14⟩
  , ⟨"TRIS", 0x3fff#14, 0x0067#14⟩ ]

/-- The whole opcode table, against which statements hold the decoder. -/
def opcodeTable : List OpcodeRow := byteRows ++ bitRows ++ literalRows ++ compatRows

/-- The don't-care bits of an instruction's word (R116). -/
def Instr.dontCare : Instr → CodeWord
  | .clrw => 0x007F#14
  | .nop => 0x0060#14
  | .movlw _ | .retlw _ => 0x0300#14
  | .addlw _ | .sublw _ => 0x0100#14
  | .addwf _ _ | .andwf _ _ | .clrf _ | .comf _ _ | .decf _ _ | .decfsz _ _ => 0#14
  | .incf _ _ | .incfsz _ _ | .iorwf _ _ | .movf _ _ | .movwf _ => 0#14
  | .rlf _ _ | .rrf _ _ | .subwf _ _ | .swapf _ _ | .xorwf _ _ => 0#14
  | .bcf _ _ | .bsf _ _ | .btfsc _ _ | .btfss _ _ => 0#14
  | .andlw _ | .call _ | .clrwdt | .goto _ | .iorlw _ => 0#14
  | .retfie | .ret | .sleep | .xorlw _ | .option | .tris _ => 0#14

end Sys2Proof
end

