-- ==== Sys2Proof/Machine/State.lean ====
section
/-! DEFINITION. The state of the machine as plain data (10_state.md), the reasons a step can stop, and
the state after Power-on Reset (70_reset_and_hazards.md rule R280). -/

namespace Sys2Proof.Machine

/-- A memory of `width`-bit cells: a list of (address, cell) pairs, addresses strictly rising, no entry
equal to what an unlisted address reads as, which is zero (log 3). At 8 bits it is a list of Host.Cell. -/
abbrev Memory (width : Nat) := List (Nat × BitVec width)

/-- The locations of the register file: the rows of Table 4-1 and the general purpose registers
(R25, R42, R43). -/
inductive Loc where
  | indf
  | tmr0
  | optionReg
  | pcl
  | status
  | fsr
  | portA
  | trisA
  | portB
  | trisB
  | eedata
  | eecon1
  | eeadr
  | eecon2
  | pclath
  | intcon
  | gpr (n : Nat)
  | unimplemented
deriving DecidableEq, Repr

/-- One step of one agent of the environment (R12, R244). -/
inductive AgentStep where
  /-- Timer0 counts once, under the policy `draw` (R246). -/
  | tmr0Tick
  /-- An edge on the pin RA4/T0CKI, counted under the policy `cycle` (R246). -/
  | t0ckiEdge (rising : Bool)
  /-- The prescaler counts once (R247). -/
  | prescalerTick
  /-- The watchdog counter counts once (R45, R249). -/
  | wdtTick
  /-- The watchdog times out (R249, R250). -/
  | wdtTimeout
  /-- An edge on the pin RB0/INT (R253). -/
  | intEdge (rising : Bool)
  /-- The pins RB7..RB4 take these levels and are compared with the latched ones (R254). -/
  | portBChange (levels : BitVec 4)
  /-- A data EEPROM write completes (R261). -/
  | eeWriteDone
  /-- The MCLR pin is driven low (R281). -/
  | mclr
deriving DecidableEq, Repr

/-- The state of the machine. Every field names its rule in INVENTORY.md under '## State'. -/
structure State where
  /-- W (R20). -/
  w : Byte
  /-- PC (R21). -/
  pc : ProgAddr
  /-- PCLATH<4:0> (R23). -/
  pclath : BitVec 5
  /-- The eight stack entries (R24). -/
  stack : Vector ProgAddr 8
  /-- The stack pointer `sp` (R24). -/
  sp : BitVec 3
  /-- TMR0 (R27). -/
  tmr0 : Byte
  /-- STATUS: IRP, RP1, RP0, TO, PD, Z, DC, C (R28). -/
  status : Byte
  /-- FSR (R30). -/
  fsr : Byte
  /-- The data latch of PORTA (R46). -/
  latA : BitVec 5
  /-- The data latch of PORTB (R46). -/
  latB : Byte
  /-- TRISA<4:0> (R38). -/
  trisA : BitVec 5
  /-- TRISB (R39). -/
  trisB : Byte
  /-- OPTION_REG (R37). -/
  optionReg : Byte
  /-- INTCON (R36). -/
  intcon : Byte
  /-- EEDATA (R34). -/
  eedata : Byte
  /-- EEADR (R35). -/
  eeadr : Byte
  /-- EECON1<4:0>: EEIF, WRERR, WREN, WR, RD (R40). -/
  eecon1 : BitVec 5
  /-- The general purpose registers, at 0Ch to 2Fh (R42). -/
  ram : Memory 8
  /-- The data EEPROM array, at 0 to 63 (R44). -/
  ee : Memory 8
  /-- Program memory, at 0 to 1023 (R81). -/
  prog : Memory 14
  /-- The watchdog counter, of unstated width (R45). -/
  wdt : Nat
  /-- The prescaler counter (R45, R247). -/
  psc : Byte
  /-- Whether the core is asleep (R47). -/
  asleep : Bool
  /-- `defer_irq`: the next instruction runs before an interrupt is taken (R47, R256). -/
  deferIrq : Bool
  /-- `ee_unlock`: how far the write-unlock sequence has come (R260). -/
  eeUnlock : BitVec 2
  /-- `ee_addr`: the address of the write in progress (R260). -/
  eeAddr : BitVec 6
  /-- `ee_data`: the byte of the write in progress (R260). -/
  eeData : Byte
  /-- RB7..RB4 as the last read of PORTB saw them (R51, R254). -/
  rbLatch : BitVec 4
  /-- The configuration, fixed for a run (R7). -/
  cfg : Config
  /-- How many more cycles Timer0 is held after a write of TMR0 (R246; log 21). -/
  t0Inhibit : BitVec 2
  /-- The ghost cycle counter (R298). -/
  cycles : Nat
  /-- The model's own: `cycles` at the last clear of the watchdog (log 9). -/
  wdtMark : Nat
  /-- The model's own: how many instructions of the unlock sequence have been executed in a row, with no
  interrupt between them; the instruction being executed is counted (R260; log 12). -/
  eeSequence : BitVec 3
  /-- The model's own: how many free values have been drawn (log 8). -/
  draws : Nat
  /-- The model's own form of the environment (log 4): the agent steps still to come. The first list
  is taken before the next core step, the second before the one after it, and so on. -/
  schedule : List (List AgentStep)
deriving DecidableEq, Repr

/-- The faults of the machine: none. The hardware raises no synchronous exception (R230). -/
inductive Fault where
deriving DecidableEq, Repr

/-- The reasons the model gives a step no meaning (R231). -/
inductive Refusal where
  /-- Raised by an arm of exec that has no meaning yet; no arm raises it. Safe. -/
  | notModelled (mnemonic : String)
  /-- `raise Reserved(word)`: raised by step on a word that the opcode map does not cover (R119), and by
  DECFSZ and INCFSZ whose destination is PCL (R151, R153, U7). Safe: the model stops. -/
  | reserved (word : CodeWord)
  /-- Raised by the meaning of TRIS on an operand outside 5 to 7, a term that no word decodes to
  (R221). Safe: the model stops. -/
  | illFormedTris (f : BitVec 3)
deriving DecidableEq, Repr

/-- What a meaning answers. -/
abbrev Result := Host.Outcome State Fault Refusal

/-- The machine after Power-on Reset (R48, R49, R51, R280, R283). The values the spec leaves unknown
are zero by the model's choice (logs 1, 2, 3, 5, 9). -/
def State.reset : State where
  w := 0x00#8
  pc := 0x0000#13
  pclath := 0#5
  stack := Vector.replicate 8 0#13
  sp := 0#3
  tmr0 := 0x00#8
  status := 0b00011000#8
  fsr := 0x00#8
  latA := 0#5
  latB := 0x00#8
  trisA := 0b11111#5
  trisB := 0xFF#8
  optionReg := 0xFF#8
  intcon := 0x00#8
  eedata := 0x00#8
  eeadr := 0x00#8
  eecon1 := 0#5
  ram := []
  ee := []
  prog := []
  wdt := 0
  psc := 0x00#8
  asleep := false
  deferIrq := false
  eeUnlock := 0#2
  eeAddr := 0#6
  eeData := 0x00#8
  rbLatch := 0#4
  cfg := { wdtEnabled := false, tmr0Policy := .draw }
  t0Inhibit := 0#2
  cycles := 0
  wdtMark := 0
  eeSequence := 0#3
  draws := 0
  schedule := []

end Sys2Proof.Machine
end

