-- ==== Sys2Proof/Machine/Fields.lean ====
section
/-! DEFINITION. The named bits of STATUS, INTCON, OPTION_REG and EECON1 (10_state.md rules R28, R36,
R37, R40). -/

namespace Sys2Proof.Machine

/-- STATUS.RP0, the bank of direct addressing (R28, R83). -/
def State.rp0 (s : State) : Bool := s.status.getLsbD 5

/-- STATUS.TO, 0 after a watchdog time-out (R9, R28). -/
def State.timeOut (s : State) : Bool := s.status.getLsbD 4

/-- STATUS.PD, 0 after SLEEP (R9, R28). -/
def State.powerDown (s : State) : Bool := s.status.getLsbD 3

/-- STATUS.Z (R28). -/
def State.zero (s : State) : Bool := s.status.getLsbD 2

/-- STATUS.DC (R28). -/
def State.digitCarry (s : State) : Bool := s.status.getLsbD 1

/-- STATUS.C (R28). -/
def State.carry (s : State) : Bool := s.status.getLsbD 0

/-- INTCON.GIE (R36). -/
def State.gie (s : State) : Bool := s.intcon.getLsbD 7

/-- INTCON.EEIE (R36). -/
def State.eeie (s : State) : Bool := s.intcon.getLsbD 6

/-- INTCON.T0IE (R36). -/
def State.t0ie (s : State) : Bool := s.intcon.getLsbD 5

/-- INTCON.INTE (R36). -/
def State.inte (s : State) : Bool := s.intcon.getLsbD 4

/-- INTCON.RBIE (R36). -/
def State.rbie (s : State) : Bool := s.intcon.getLsbD 3

/-- INTCON.T0IF (R36). -/
def State.t0if (s : State) : Bool := s.intcon.getLsbD 2

/-- INTCON.INTF (R36). -/
def State.intf (s : State) : Bool := s.intcon.getLsbD 1

/-- INTCON.RBIF (R36). -/
def State.rbif (s : State) : Bool := s.intcon.getLsbD 0

/-- OPTION_REG.INTEDG (R37). -/
def State.intedg (s : State) : Bool := s.optionReg.getLsbD 6

/-- OPTION_REG.T0CS (R37). -/
def State.t0cs (s : State) : Bool := s.optionReg.getLsbD 5

/-- OPTION_REG.T0SE (R37). -/
def State.t0se (s : State) : Bool := s.optionReg.getLsbD 4

/-- OPTION_REG.PSA: the prescaler is the watchdog's (R37). -/
def State.psa (s : State) : Bool := s.optionReg.getLsbD 3

/-- OPTION_REG.PS2:PS0 as a number (R37). -/
def State.ps (s : State) : Nat := (s.optionReg.extractLsb' 0 3).toNat

/-- EECON1.EEIF (R40). -/
def State.eeif (s : State) : Bool := s.eecon1.getLsbD 4

/-- EECON1.WRERR (R40). -/
def State.wrerr (s : State) : Bool := s.eecon1.getLsbD 3

/-- EECON1.WREN (R40). -/
def State.wren (s : State) : Bool := s.eecon1.getLsbD 2

/-- EECON1.WR (R40). -/
def State.wr (s : State) : Bool := s.eecon1.getLsbD 1

/-- EECON1.RD (R40). -/
def State.rd (s : State) : Bool := s.eecon1.getLsbD 0

/-- The state with bit `i` of INTCON set to `b`. -/
def State.putIntcon (s : State) (i : Nat) (b : Bool) : State :=
  { s with intcon := putBit s.intcon i b }

/-- The state with bit `i` of STATUS set to `b`. -/
def State.putStatus (s : State) (i : Nat) (b : Bool) : State :=
  { s with status := putBit s.status i b }

/-- The state with bit `i` of EECON1 set to `b`. -/
def State.putEecon1 (s : State) (i : Nat) (b : Bool) : State :=
  { s with eecon1 := putBit s.eecon1 i b }

end Sys2Proof.Machine
end

