-- ==== Sys2Proof/Machine/Memory.lean ====
section
/-! DEFINITION. Reading and writing a memory in canonical form, and the form itself. -/

namespace Sys2Proof.Machine

/-- What an address that is not listed reads as: zero (log 3). -/
def Memory.unlisted (n : Nat) : BitVec n := 0#n

/-- The cell at an address. -/
def Memory.read {n : Nat} (m : Memory n) (a : Nat) : BitVec n :=
  match m with
  | [] => Memory.unlisted n
  | (k, v) :: rest => if k = a then v else Memory.read rest a

/-- A cell in front of a memory, left out when it equals what an unlisted address reads as. -/
def Memory.consCell {n : Nat} (a : Nat) (v : BitVec n) (m : Memory n) : Memory n :=
  if v = Memory.unlisted n then m else (a, v) :: m

/-- Writing one cell; the canonical form is kept. -/
def Memory.write {n : Nat} (m : Memory n) (a : Nat) (v : BitVec n) : Memory n :=
  match m with
  | [] => Memory.consCell a v []
  | (k, u) :: rest =>
    if a < k then Memory.consCell a v ((k, u) :: rest)
    else if a = k then Memory.consCell a v rest
    else (k, u) :: Memory.write rest a v

/-- The canonical form: addresses strictly rising, no entry equal to what an unlisted address reads as. -/
def Memory.wf {n : Nat} (m : Memory n) : Bool :=
  match m with
  | [] => true
  | (k, v) :: rest =>
    (v != Memory.unlisted n) && rest.all (fun c => decide (k < c.1)) && Memory.wf rest

/-- Every listed address lies in `lo..hi-1`. -/
def Memory.within {n : Nat} (m : Memory n) (lo hi : Nat) : Bool :=
  m.all (fun c => decide (lo ≤ c.1) && decide (c.1 < hi))

end Sys2Proof.Machine
end

