-- ==== Sys2Proof/Machine/Ops.lean ====
section
/-! DEFINITION. The shared operations: moving the program counter, the hardware stack, interrupt entry
and return, the watchdog clear, Timer0, the data EEPROM, and the resets. -/

namespace Sys2Proof.Machine

/-! ### Program memory (R81, R82) -/

/-- The word of program memory an address names: only its low ten bits select (R81). -/
def progIndex (p : ProgAddr) : Nat := (p.extractLsb' 0 10).toNat

/-- `Fetch(pc)` (R81, R82): no side effect, and it cannot fail. -/
def fetch (s : State) : CodeWord := s.prog.read (progIndex s.pc)

/-- A word placed in program memory from outside the machine (R302; log 6). -/
def loadWord (p : ProgAddr) (word : CodeWord) (s : State) : State :=
  { s with prog := s.prog.write (progIndex p) word }

/-! ### The program counter (R21, R144, R204) and the cycle counts (R298) -/

/-- The next instruction: `pc <- pc + 1` modulo 2^13, one cycle. -/
def advance (s : State) : State := { s with pc := s.pc + 1#13, cycles := s.cycles + 1 }

/-- A taken skip: `pc <- pc + 2`, two cycles; the skipped word is neither fetched nor decoded (R144). -/
def skipNext (s : State) : State := { s with pc := s.pc + 2#13, cycles := s.cycles + 2 }

/-- A transfer of control to a 13-bit address, two cycles. -/
def branchTo (target : ProgAddr) (s : State) : State :=
  { s with pc := target, cycles := s.cycles + 2 }

/-- The target of GOTO and CALL, `PCLATH[4:3] : k` (R193, R195). -/
def longTarget (k : BitVec 11) (s : State) : ProgAddr :=
  (s.pclath.extractLsb' 3 2 ++ k : BitVec 13)

/-- A write of `v` to PCL: `pc <- PCLATH[4:0] : v` (R22). It takes the place of the increment that came
with the instruction's first cycle, and costs the second one (R298). -/
def writePcl (v : Byte) (s : State) : State :=
  { s with pc := (s.pclath ++ v : BitVec 13), cycles := s.cycles + 1 }

/-! ### The hardware stack (R24) -/

/-- The stack entry a pointer names. -/
def State.stackAt (s : State) (i : BitVec 3) : ProgAddr := s.stack[i.toNat]

/-- `push(v)`: `stk[sp] <- v ; sp <- (sp + 1) mod 8`. -/
def push (v : ProgAddr) (s : State) : State :=
  { s with stack := s.stack.set s.sp.toNat v, sp := s.sp + 1#3 }

/-- "TOS is the entry a pop returns": `stk[sp - 1]`. -/
def State.tos (s : State) : ProgAddr := s.stackAt (s.sp - 1#3)

/-- `pc <- pop()`: `sp <- (sp - 1) mod 8`, and the program counter takes the popped entry, two cycles. -/
def popToPc (s : State) : State := branchTo s.tos { s with sp := s.sp - 1#3 }

/-! ### Interrupts (R235, R240, R241) and wake-up (R256) -/

/-- The requests that can end a sleep: every source but TMR0 (R256). -/
def wakeRequest (s : State) : Bool :=
  (s.inte && s.intf) || (s.rbie && s.rbif) || (s.eeie && s.eeif)

/-- The interrupt request `irq` (R235). -/
def irq (s : State) : Bool := (s.t0ie && s.t0if) || wakeRequest s

/-- Whether the next core step is an interrupt entry: GIE = 1, a request, and no deferral (R238, R256). -/
def interruptDue (s : State) : Bool := s.gie && irq s && !s.deferIrq

/-- Taking an interrupt: `push(pc) ; GIE <- 0 ; pc <- 0x0004`, two cycles, nothing else (R240). -/
def takeInterrupt (s : State) : State :=
  branchTo 0x0004#13 ((push s.pc s).putIntcon 7 false)

/-- Returning from an interrupt: `GIE <- 1 ; pc <- pop()`, nothing else restored (R198, R241). -/
def returnFromInterrupt (s : State) : State := popToPc (s.putIntcon 7 true)

/-- A sleeping core wakes when an enabled source other than TMR0 requests, whatever GIE is; if GIE = 1
one instruction runs before the interrupt entry (R256). -/
def wakeIfDue (s : State) : State :=
  if s.asleep && wakeRequest s then { s with asleep := false, deferIrq := s.gie } else s

/-- The state before a step in which the core is sure to fetch: awake, no agent step first, and a pending
interrupt deferred by one instruction (log 6). -/
def quietNext (s : State) : State :=
  { s with
    asleep := false
    deferIrq := s.deferIrq || (s.gie && irq s)
    schedule := if s.schedule.headD [] = [] then s.schedule else [] :: s.schedule }

/-! ### The watchdog and the prescaler (R45, R194, R201) -/

/-- Clearing the watchdog: its counter, and the prescaler when it is the watchdog's (R45). -/
def clearWatchdog (s : State) : State :=
  { s with wdt := 0, psc := if s.psa then 0#8 else s.psc, wdtMark := s.cycles }

/-! ### Timer0 (R246 to R248) -/

/-- `TMR0 <- (TMR0 + 1) mod 256`; T0IF is set when it goes from FFh to 00h (R246, R248). -/
def incTmr0 (s : State) : State :=
  { s with
    tmr0 := s.tmr0 + 1#8
    intcon := if s.tmr0 = 0xFF#8 then putBit s.intcon 2 true else s.intcon }

/-- One count at Timer0's input: through the prescaler, 1:2^(PS+1), when PSA = 0 (R37, R246). -/
def countTmr0 (s : State) : State :=
  if s.psa then incTmr0 s
  else
    let p := s.psc + 1#8
    if p.toNat % 2 ^ (s.ps + 1) = 0 then incTmr0 { s with psc := p } else { s with psc := p }

/-- One instruction cycle of Timer0 under the policy `cycle`: held after a write of TMR0, counting in
timer mode, still in counter mode and asleep (R246; log 21). -/
def timerCycle (s : State) : State :=
  if s.t0Inhibit ≠ 0#2 then { s with t0Inhibit := s.t0Inhibit - 1#2 }
  else if s.asleep || s.t0cs then s
  else countTmr0 s

/-- `n` instruction cycles of Timer0. -/
def timerCycles (n : Nat) (s : State) : State :=
  match n with
  | 0 => s
  | k + 1 => timerCycles k (timerCycle s)

/-- The passing of `n` instruction cycles: nothing under `draw`, Timer0 under `cycle` (R246). -/
def passCycles (n : Nat) (s : State) : State :=
  match s.cfg.tmr0Policy with
  | .draw => s
  | .cycle => timerCycles n s

/-- A write of `v` to TMR0: the prescaler is cleared if it is Timer0's (R87, R291), and the counting is
held for the rest of this cycle and the two that follow (R246; log 21). -/
def writeTmr0 (v : Byte) (s : State) : State :=
  { s with tmr0 := v, psc := if s.psa then s.psc else 0#8, t0Inhibit := 3#2 }

/-! ### The data EEPROM (R258 to R261) -/

/-- The address EEADR selects: its low six bits (R35). -/
def State.eeIndex (s : State) : BitVec 6 := s.eeadr.extractLsb' 0 6

/-- A data EEPROM read: `EEDATA <- ee[EEADR[5:0]] ; RD <- 0`, part of the step that set RD (R259). -/
def eeRead (s : State) : State :=
  { s with eedata := s.ee.read s.eeIndex.toNat, eecon1 := putBit s.eecon1 0 false }

/-- How far `i`, about to execute, brings the unlock sequence of exactly these five instructions: MOVLW
0x55, MOVWF EECON2, MOVLW 0xAA, MOVWF EECON2, BSF EECON1,1, with Bank 1 selected. Any other instruction
breaks it (R260; log 12). -/
def sequenceAfter (i : Instr) (s : State) : BitVec 3 :=
  if i = .movlw 0x55#8 then 1#3
  else if i = .movwf 0x09#7 ∧ s.rp0 = true ∧ s.eeSequence = 1#3 then 2#3
  else if i = .movlw 0xAA#8 ∧ s.eeSequence = 2#3 then 3#3
  else if i = .movwf 0x09#7 ∧ s.rp0 = true ∧ s.eeSequence = 3#3 then 4#3
  else if i = .bsf 0x08#7 1#3 ∧ s.rp0 = true ∧ s.eeSequence = 4#3 then 5#3
  else 0#3

/-- The state in which `i` executes: `i` is counted in the unlock sequence (log 12). -/
def countSequence (i : Instr) (s : State) : State := { s with eeSequence := sequenceAfter i s }

/-- Whether a data EEPROM write that sets WR now is the last step of the unlock sequence: the sequence of
exactly five instructions is complete, and `ee_unlock` is 2 (R260; log 12). -/
def eeSequenced (s : State) : Bool := s.eeUnlock == 2#2 && s.eeSequence == 5#3

/-- Whether the write that has just set WR starts: WREN must be 1, and the unlock sequence complete;
with WREN = 1 and the sequence not complete the environment chooses (R260, U10; log 10). -/
def eeStarts (s : State) : Bool :=
  s.wren && (eeSequenced s || Config.eeStartsUnsequenced s.draws)

/-- The start of a data EEPROM write: WR stays 1, address and data are captured and the unlock state is
cleared if it starts, and WR is 0 again if it does not (R260). R260 gives the clearing of `ee_unlock` for
a start at the end of the sequence; that a start outside it clears `ee_unlock` too, and that WR set
without a start leaves `ee_unlock` as it is, are the model's choice (log 10). -/
def eeWriteStart (s : State) : State :=
  { s with
    eecon1 := putBit s.eecon1 1 (eeStarts s)
    eeUnlock := if eeStarts s then 0#2 else s.eeUnlock
    eeAddr := if eeStarts s then s.eeIndex else s.eeAddr
    eeData := if eeStarts s then s.eedata else s.eeData
    draws := if s.wren && !eeSequenced s then s.draws + 1 else s.draws }

/-- EECON1 after a write of `v`: EEIF, WRERR, WREN take `v[4:2]`; WR and RD can be set, not cleared
(R258). -/
def eecon1After (v : Byte) (old : BitVec 5) : BitVec 5 :=
  (v.extractLsb' 2 3 ++ BitVec.ofBool (old.getLsbD 1 || v.getLsbD 1)
    ++ BitVec.ofBool (old.getLsbD 0 || v.getLsbD 0) : BitVec 5)

/-- A write of `v` to EECON1 (R258): the bits, then the read if `v[0]`, then the write start if `v[1]`
and WR was 0 before. -/
def writeEecon1 (v : Byte) (s : State) : State :=
  let s₁ := { s with eecon1 := eecon1After v s.eecon1 }
  let s₂ := if v.getLsbD 0 then eeRead s₁ else s₁
  if v.getLsbD 1 && !s.wr then eeWriteStart s₂ else s₂

/-- A write of `v` to EECON2: no storage, only the unlock sequence (R41, R260; log 11). -/
def writeEecon2 (v : Byte) (s : State) : State :=
  { s with
    eeUnlock :=
      if v = 0x55#8 then 1#2
      else if v = 0xAA#8 ∧ s.eeUnlock = 1#2 then 2#2
      else 0#2 }

/-- The completion of a data EEPROM write in progress (R261). -/
def eeWriteDone (s : State) : State :=
  if s.wr then
    { s with
      ee := s.ee.write s.eeAddr.toNat s.eeData
      eecon1 := putBit (putBit s.eecon1 1 false) 4 true }
  else s

/-! ### Resets (R281 to R284) -/

/-- EECON1 after a reset other than Power-on: WRERR is 1 if a write was cut short, else unchanged; every
other bit is 0 (R50, R261, R283). -/
def eecon1AfterReset (s : State) : BitVec 5 := putBit 0#5 3 (s.wr || s.wrerr)

/-- What the two resets inside a run share: the "all other resets" column of Table 4-1 but for TO and
PD, and the common part (R48, R281, R283). A data EEPROM write in progress is abandoned and leaves a
free value in its cell (R261, U12; log 14). -/
def otherReset (status : Byte) (s : State) : State :=
  { s with
    pc := 0x0000#13
    pclath := 0#5
    status := status
    intcon := s.intcon &&& 0x01#8
    optionReg := 0xFF#8
    trisA := 0x1F#5
    trisB := 0xFF#8
    eecon1 := eecon1AfterReset s
    ee := if s.wr then s.ee.write s.eeAddr.toNat (Config.eeTornByte s.draws) else s.ee
    draws := if s.wr then s.draws + 1 else s.draws
    stack := Vector.replicate 8 0#13
    sp := 0#3
    wdt := 0
    psc := 0#8
    wdtMark := s.cycles
    asleep := false
    deferIrq := false
    eeUnlock := 0#2
    eeSequence := 0#3
    t0Inhibit := 0#2 }

/-- A MCLR reset: STATUS = `000q quuu` with TO and PD unchanged (R50, R281). -/
def mclrReset (s : State) : State := otherReset (s.status &&& 0x1F#8) s

/-- A Watchdog Timer Reset: as a MCLR reset, but TO = 0 and PD = 1 (R50, R282). -/
def watchdogReset (s : State) : State :=
  otherReset (putBit (putBit (s.status &&& 0x1F#8) 4 false) 3 true) s

/-- A later Power-on Reset: a new run whose data EEPROM is the old run's (R284; log 22). -/
def State.powerCycle (s : State) : State :=
  { State.reset with ee := s.ee, prog := s.prog, cfg := s.cfg, draws := s.draws }

end Sys2Proof.Machine
end

