-- ==== Sys2Proof/Machine/Agents.lean ====
section
/-! DEFINITION. The environment agents (60_exceptions.md rules R244 to R261; 70_reset_and_hazards.md
rules R281, R282), whose steps happen only between core steps. -/

namespace Sys2Proof.Machine

/-- Timer0's agent under `draw`: it may count whenever the core is awake (R246). -/
def agentTmr0 (s : State) : State :=
  if s.cfg.tmr0Policy = .draw ∧ s.asleep = false then incTmr0 s else s

/-- An edge on RA4/T0CKI under `cycle`: counted in counter mode, awake, if it is the edge T0SE selects
(1 falling, 0 rising), and not while counting is held (R37, R246; log 21). -/
def agentT0cki (rising : Bool) (s : State) : State :=
  if s.cfg.tmr0Policy = .cycle ∧ s.asleep = false ∧ s.t0cs = true ∧ rising = !s.t0se
      ∧ s.t0Inhibit = 0#2 then
    countTmr0 s
  else s

/-- The prescaler's own count: the watchdog's when PSA = 1 and the watchdog runs; Timer0's when PSA = 0,
under `draw` and awake (R45, R247; log 20). -/
def agentPrescaler (s : State) : State :=
  if (s.psa = true ∧ s.cfg.wdtEnabled = true)
      ∨ (s.psa = false ∧ s.cfg.tmr0Policy = .draw ∧ s.asleep = false) then
    { s with psc := s.psc + 1#8 }
  else s

/-- The watchdog's own count, if it is enabled, awake or asleep (R45, R249; log 20). -/
def agentWdtTick (s : State) : State :=
  if s.cfg.wdtEnabled then { s with wdt := s.wdt + 1 } else s

/-- The effect of a watchdog time-out: a reset when the core is awake; a wake-up with TO = 0 when it is
asleep; the counter restarts from zero (R250, R256). -/
def agentWdtTimeout (s : State) : State :=
  if s.cfg.wdtEnabled then
    if s.asleep then
      { s.putStatus 4 false with asleep := false, wdt := 0, wdtMark := s.cycles }
    else watchdogReset s
  else s

/-- An edge on RB0/INT: INTF is set if it is the edge INTEDG selects (1 rising, 0 falling) (R253). -/
def agentIntEdge (rising : Bool) (s : State) : State :=
  if rising = s.intedg then s.putIntcon 1 true else s

/-- RB7..RB4 take new levels: RBIF is set if one that is an input differs from its latched level (R254;
log 23). -/
def agentPortBChange (levels : BitVec 4) (s : State) : State :=
  if (levels ^^^ s.rbLatch) &&& s.trisB.extractLsb' 4 4 ≠ 0#4 then s.putIntcon 0 true else s

/-- One step of one agent (R244). -/
def agentStep (e : AgentStep) (s : State) : State :=
  match e with
  | .tmr0Tick => agentTmr0 s
  | .t0ckiEdge rising => agentT0cki rising s
  | .prescalerTick => agentPrescaler s
  | .wdtTick => agentWdtTick s
  | .wdtTimeout => agentWdtTimeout s
  | .intEdge rising => agentIntEdge rising s
  | .portBChange levels => agentPortBChange levels s
  | .eeWriteDone => eeWriteDone s
  | .mclr => mclrReset s

/-- The agent steps of one boundary, in their order; a sleeping core wakes as soon as an enabled source
requests (R244, R256; log 24). -/
def agentSteps (es : List AgentStep) (s : State) : State :=
  match es with
  | [] => wakeIfDue s
  | e :: rest => agentSteps rest (agentStep e (wakeIfDue s))

/-- What happens between the last core step and this one: the first list of the schedule (log 4). -/
def runAgents (s : State) : State :=
  agentSteps (s.schedule.headD []) { s with schedule := s.schedule.tail }

end Sys2Proof.Machine
end

