-- ==== Sys2Proof/Machine/Flags.lean ====
section
/-! DEFINITION. The results and the flags of the arithmetic and logic operations (40_byte_oriented.md
rules R142, R143, R145 to R162; 10_state.md rules R28, R53). -/

namespace Sys2Proof.Machine

/-- What an instruction does to Z, DC and C: the value it computes, or nothing for a flag that its
"Status Affected" line does not list (R53). -/
structure FlagUpdate where
  z : Option Bool
  dc : Option Bool
  c : Option Bool
deriving DecidableEq, Repr

/-- An 8-bit result with its flags. -/
structure AluOut where
  result : Byte
  flags : FlagUpdate
deriving DecidableEq, Repr

/-- "Status Affected: None". -/
def FlagUpdate.none : FlagUpdate := { z := .none, dc := .none, c := .none }

/-- "Status Affected: Z": Z is 1 exactly when the result is zero (R28). -/
def FlagUpdate.zOf (r : Byte) : FlagUpdate := { z := some (r == 0#8), dc := .none, c := .none }

/-- "Status Affected: C". -/
def FlagUpdate.cOnly (c : Bool) : FlagUpdate := { z := .none, dc := .none, c := some c }

/-- Whether an instruction affects one or more of Z, DC, C: the condition of R29. -/
def FlagUpdate.affectsAny (u : FlagUpdate) : Bool := u.z.isSome || u.dc.isSome || u.c.isSome

/-- Bit `i` of `v` set to the flag's new value, or left alone. -/
def putFlag (v : Byte) (i : Nat) (flag : Option Bool) : Byte :=
  match flag with
  | some b => putBit v i b
  | .none => v

/-- STATUS with the affected flags written: Z bit 2, DC bit 1, C bit 0 (R28). -/
def FlagUpdate.applyTo (u : FlagUpdate) (status : Byte) : Byte :=
  putFlag (putFlag (putFlag status 2 u.z) 1 u.dc) 0 u.c

/-- The state with the affected flags written; every other bit of STATUS is unchanged (R53). -/
def setFlags (u : FlagUpdate) (s : State) : State := { s with status := u.applyTo s.status }

/-- An 8-bit addition `a + b` and its flags (R142). -/
def addOut (a b : Byte) : AluOut :=
  let s9 : BitVec 9 := a.zeroExtend 9 + b.zeroExtend 9
  let r : Byte := s9.extractLsb' 0 8
  let low : BitVec 5 := (a.extractLsb' 0 4).zeroExtend 5 + (b.extractLsb' 0 4).zeroExtend 5
  { result := r
    flags := { z := some (r == 0#8), dc := some (low.getLsbD 4), c := some (s9.getLsbD 8) } }

/-- An 8-bit subtraction `a - b`, computed as `a + ~b + 1`, and its flags (R143). -/
def subOut (a b : Byte) : AluOut :=
  let s9 : BitVec 9 := a.zeroExtend 9 + (~~~b).zeroExtend 9 + 1#9
  let r : Byte := s9.extractLsb' 0 8
  let low : BitVec 5 :=
    (a.extractLsb' 0 4).zeroExtend 5 + ((~~~b).extractLsb' 0 4).zeroExtend 5 + 1#5
  { result := r
    flags := { z := some (r == 0#8), dc := some (low.getLsbD 4), c := some (s9.getLsbD 8) } }

/-- A result that affects Z alone. -/
def zOut (r : Byte) : AluOut := { result := r, flags := FlagUpdate.zOf r }

/-- A result that affects no flag. -/
def plainOut (r : Byte) : AluOut := { result := r, flags := FlagUpdate.none }

/-- Rotation left through C: the old carry enters bit 0, bit 7 leaves into C (R158). -/
def rlOut (c : Bool) (v : Byte) : AluOut :=
  { result := (v.extractLsb' 0 7 ++ BitVec.ofBool c : BitVec 8)
    flags := FlagUpdate.cOnly (v.getLsbD 7) }

/-- Rotation right through C: the old carry enters bit 7, bit 0 leaves into C (R159). -/
def rrOut (c : Bool) (v : Byte) : AluOut :=
  { result := (BitVec.ofBool c ++ v.extractLsb' 1 7 : BitVec 8)
    flags := FlagUpdate.cOnly (v.getLsbD 0) }

/-- The nibbles exchanged (R161). -/
def swapNibbles (v : Byte) : Byte := (v.extractLsb' 0 4 ++ v.extractLsb' 4 4 : BitVec 8)

end Sys2Proof.Machine
end

