-- ==== Sys2Proof/Machine/Operands.lean ====
section
/-! DEFINITION. The operand forms: from the field `f` to a register file address (20_memory.md rules
R83, R84), the register file map (R86, R87), the pins (60_exceptions.md rule R252), the destination
(R141), and the shared shapes of the instructions. -/

namespace Sys2Proof.Machine

/-- `ea(f)`: FSR for `f = 0`, and `RP0 : f` otherwise (R83, R84). -/
def ea (f : BitVec 7) (s : State) : Byte :=
  if f = 0#7 then s.fsr else (BitVec.ofBool s.rp0 ++ f : BitVec 8)

/-- The location at an 8-bit register file address: bit 7 is the bank (R25, R42, R43). -/
def locOf (a : Byte) : Loc :=
  let l := (a.extractLsb' 0 7).toNat
  match l with
  | 0x00 => .indf
  | 0x01 => if a.getLsbD 7 then .optionReg else .tmr0
  | 0x02 => .pcl
  | 0x03 => .status
  | 0x04 => .fsr
  | 0x05 => if a.getLsbD 7 then .trisA else .portA
  | 0x06 => if a.getLsbD 7 then .trisB else .portB
  | 0x07 => .unimplemented
  | 0x08 => if a.getLsbD 7 then .eecon1 else .eedata
  | 0x09 => if a.getLsbD 7 then .eecon2 else .eeadr
  | 0x0A => .pclath
  | 0x0B => .intcon
  | _ => if l ≤ 0x2F then .gpr l else .unimplemented

/-- The levels of RA4..RA0: an output pin reads its latch, an input pin a free level; RA4 is open drain
and reads 0 only when driven low (R252; log 7). -/
def pinsA (s : State) : BitVec 5 :=
  let level := Config.pinsA s.draws
  let driven := (s.trisA &&& level) ||| (~~~s.trisA &&& s.latA)
  putBit driven 4
    (if !s.trisA.getLsbD 4 && !s.latA.getLsbD 4 then false else level.getLsbD 4)

/-- The levels of RB7..RB0 (R252; log 7). -/
def pinsB (s : State) : Byte :=
  (s.trisB &&& Config.pinsB s.draws) ||| (~~~s.trisB &&& s.latB)

/-- The byte a location reads as (R86); unimplemented bits read as 0. -/
def readLoc (l : Loc) (s : State) : Byte :=
  match l with
  | .indf => 0#8
  | .tmr0 => s.tmr0
  | .optionReg => s.optionReg
  | .pcl => (s.pc + 1#13).extractLsb' 0 8
  | .status => s.status
  | .fsr => s.fsr
  | .portA => (0#3 ++ pinsA s : BitVec 8)
  | .trisA => (0#3 ++ s.trisA : BitVec 8)
  | .portB => pinsB s
  | .trisB => s.trisB
  | .eedata => s.eedata
  | .eecon1 => (0#3 ++ s.eecon1 : BitVec 8)
  | .eeadr => s.eeadr
  | .eecon2 => 0#8
  | .pclath => (0#3 ++ s.pclath : BitVec 8)
  | .intcon => s.intcon
  | .gpr n => s.ram.read n
  | .unimplemented => 0#8

/-- What reading a location does: a port read takes fresh pin levels, and a read of PORTB refreshes the
interrupt-on-change latch (R86, R91, R254). -/
def readEffect (l : Loc) (s : State) : State :=
  match l with
  | .portA => { s with draws := s.draws + 1 }
  | .portB => { s with draws := s.draws + 1, rbLatch := (pinsB s).extractLsb' 4 4 }
  | .indf | .tmr0 | .optionReg | .pcl | .status | .fsr | .trisA | .trisB | .eedata => s
  | .eecon1 | .eeadr | .eecon2 | .pclath | .intcon | .gpr _ | .unimplemented => s

/-- STATUS after a write of `v` to it: bits 7:5 are written, TO and PD are not, and bits 2:0 are written
only by an instruction that affects none of Z, DC, C (R29). -/
def statusAfter (affects : Bool) (v old : Byte) : Byte :=
  (v.extractLsb' 5 3 ++ old.extractLsb' 3 2
    ++ (if affects then old.extractLsb' 0 3 else v.extractLsb' 0 3) : BitVec 8)

/-- A write of `v` to a location (R87); `affects` says whether the writing instruction affects one or
more of Z, DC, C (R29). -/
def writeLoc (affects : Bool) (l : Loc) (v : Byte) (s : State) : State :=
  match l with
  | .indf => s
  | .tmr0 => writeTmr0 v s
  | .optionReg => { s with optionReg := v }
  | .pcl => writePcl v s
  | .status => { s with status := statusAfter affects v s.status }
  | .fsr => { s with fsr := v }
  | .portA => { s with latA := v.extractLsb' 0 5 }
  | .trisA => { s with trisA := v.extractLsb' 0 5 }
  | .portB => { s with latB := v }
  | .trisB => { s with trisB := v }
  | .eedata => { s with eedata := v }
  | .eecon1 => writeEecon1 v s
  | .eeadr => { s with eeadr := v }
  | .eecon2 => writeEecon2 v s
  | .pclath => { s with pclath := v.extractLsb' 0 5 }
  | .intcon => { s with intcon := v }
  | .gpr n => { s with ram := s.ram.write n v }
  | .unimplemented => s

/-- `MemRead(a, 1)`, its value (R86). -/
def fileValue (a : Byte) (s : State) : Byte := readLoc (locOf a) s

/-- `MemRead(a, 1)`, its effect (R86, R91). -/
def afterRead (a : Byte) (s : State) : State := readEffect (locOf a) s

/-- `MemWrite(a, 1, v)` (R87). -/
def fileWrite (affects : Bool) (a v : Byte) (s : State) : State := writeLoc affects (locOf a) v s

/-- `dest(d, a, r)`: W, or the file register at `a` (R141). -/
def storeResult (affects : Bool) (d : Dest) (a r : Byte) (s : State) : State :=
  match d with
  | .w => { s with w := r }
  | .f => fileWrite affects a r s

/-- The shape of every instruction that computes from a file register (R90, R94, R140, R141): the
address once, the read, the computation, the program counter, the destination (a write of PCL
replaces the program counter), the flags. -/
def fileOperate (d : Dest) (f : BitVec 7) (alu : Byte → AluOut) (move : Byte → State → State)
    (s : State) : State :=
  let a := ea f s
  let y := alu (fileValue a s)
  setFlags y.flags
    (storeResult y.flags.affectsAny d a y.result (move y.result (afterRead a s)))

/-- The move of an instruction that neither branches nor skips. -/
def plainMove (_ : Byte) (s : State) : State := advance s

/-- The move of DECFSZ and INCFSZ: skip when the result is 0 (R144, R151, R153). -/
def skipIfZero (r : Byte) (s : State) : State := if r = 0#8 then skipNext s else advance s

/-- The shape of BTFSC and BTFSS: read, test bit `b`, skip when it equals `skipOn` (R183, R184). -/
def bitTest (skipOn : Bool) (f : BitVec 7) (b : BitVec 3) (s : State) : State :=
  let a := ea f s
  if (fileValue a s).getLsbD b.toNat = skipOn then skipNext (afterRead a s)
  else advance (afterRead a s)

/-- The shape of the literal arithmetic and logic instructions: W and the flags (R190). -/
def literalOperate (y : AluOut) (s : State) : State :=
  setFlags y.flags { advance s with w := y.result }

end Sys2Proof.Machine
end

