-- ==== Sys2Proof/Machine/BitOriented.lean ====
section
/-! DEFINITION. The bit-oriented file register operations (41_bit_oriented.md rules R180 to R184). -/

namespace Sys2Proof.Machine

/-- BCF: the byte is read, bit `b` cleared, the byte written back (R181). -/
def execBcf (f : BitVec 7) (b : BitVec 3) (s : State) : Result :=
  .next (fileOperate .f f (fun v => plainOut (putBit v b.toNat false)) plainMove s)

/-- BSF: the byte is read, bit `b` set, the byte written back (R182). -/
def execBsf (f : BitVec 7) (b : BitVec 3) (s : State) : Result :=
  .next (fileOperate .f f (fun v => plainOut (putBit v b.toNat true)) plainMove s)

/-- BTFSC: skip if bit `b` is 0; nothing is written (R183). -/
def execBtfsc (f : BitVec 7) (b : BitVec 3) (s : State) : Result := .next (bitTest false f b s)

/-- BTFSS: skip if bit `b` is 1; nothing is written (R184). -/
def execBtfss (f : BitVec 7) (b : BitVec 3) (s : State) : Result := .next (bitTest true f b s)

end Sys2Proof.Machine
end

