-- ==== Sys2Proof/Machine/ByteOriented.lean ====
section
/-! DEFINITION. The byte-oriented file register operations (40_byte_oriented.md rules R145 to R162). -/

namespace Sys2Proof.Machine

/-- ADDWF, "(W) + (f) → (destination)" (R145). -/
def execAddwf (d : Dest) (f : BitVec 7) (s : State) : Result :=
  .next (fileOperate d f (fun v => addOut s.w v) plainMove s)

/-- ANDWF, "(W) .AND. (f) → (destination)" (R146). -/
def execAndwf (d : Dest) (f : BitVec 7) (s : State) : Result :=
  .next (fileOperate d f (fun v => zOut (s.w &&& v)) plainMove s)

/-- CLRF, "00h → (f), 1 → Z"; the value read is discarded (R147). -/
def execClrf (f : BitVec 7) (s : State) : Result :=
  .next (fileOperate .f f (fun _ => zOut 0x00#8) plainMove s)

/-- CLRW, "00h → (W), 1 → Z"; no file register is read (R148). -/
def execClrw (s : State) : Result := .next (literalOperate (zOut 0x00#8) s)

/-- COMF, the complement of (f) → (destination) (R149). -/
def execComf (d : Dest) (f : BitVec 7) (s : State) : Result :=
  .next (fileOperate d f (fun v => zOut (~~~v)) plainMove s)

/-- DECF, "(f) - 1 → (destination)" (R150). -/
def execDecf (d : Dest) (f : BitVec 7) (s : State) : Result :=
  .next (fileOperate d f (fun v => zOut (v - 1#8)) plainMove s)

/-- DECFSZ, "(f) - 1 → (destination); skip if result = 0"; with PCL as destination the spec gives it no
meaning (R151, U7). -/
def execDecfsz (d : Dest) (f : BitVec 7) (s : State) : Result :=
  if d = .f ∧ locOf (ea f s) = .pcl then .refused (.reserved (encode (.decfsz d f)))
  else .next (fileOperate d f (fun v => plainOut (v - 1#8)) skipIfZero s)

/-- INCF, "(f) + 1 → (destination)" (R152). -/
def execIncf (d : Dest) (f : BitVec 7) (s : State) : Result :=
  .next (fileOperate d f (fun v => zOut (v + 1#8)) plainMove s)

/-- INCFSZ, "(f) + 1 → (destination), skip if result = 0"; with PCL as destination the spec gives it no
meaning (R153, U7). -/
def execIncfsz (d : Dest) (f : BitVec 7) (s : State) : Result :=
  if d = .f ∧ locOf (ea f s) = .pcl then .refused (.reserved (encode (.incfsz d f)))
  else .next (fileOperate d f (fun v => plainOut (v + 1#8)) skipIfZero s)

/-- IORWF, "(W) .OR. (f) → (destination)" (R154). -/
def execIorwf (d : Dest) (f : BitVec 7) (s : State) : Result :=
  .next (fileOperate d f (fun v => zOut (s.w ||| v)) plainMove s)

/-- MOVF, "(f) → (destination)" (R155). -/
def execMovf (d : Dest) (f : BitVec 7) (s : State) : Result :=
  .next (fileOperate d f (fun v => zOut v) plainMove s)

/-- MOVWF, "(W) → (f)"; the value read is discarded (R156). -/
def execMovwf (f : BitVec 7) (s : State) : Result :=
  .next (fileOperate .f f (fun _ => plainOut s.w) plainMove s)

/-- NOP: `pc <- pc + 1` (R157). -/
def execNop (s : State) : Result := .next (advance s)

/-- RLF, "rotated one bit to the left through the Carry Flag" (R158). -/
def execRlf (d : Dest) (f : BitVec 7) (s : State) : Result :=
  .next (fileOperate d f (fun v => rlOut s.carry v) plainMove s)

/-- RRF, "rotated one bit to the right through the Carry Flag" (R159). -/
def execRrf (d : Dest) (f : BitVec 7) (s : State) : Result :=
  .next (fileOperate d f (fun v => rrOut s.carry v) plainMove s)

/-- SUBWF, "(f) - (W) → (destination)" (R160). -/
def execSubwf (d : Dest) (f : BitVec 7) (s : State) : Result :=
  .next (fileOperate d f (fun v => subOut v s.w) plainMove s)

/-- SWAPF, the nibbles of (f) exchanged → (destination) (R161). -/
def execSwapf (d : Dest) (f : BitVec 7) (s : State) : Result :=
  .next (fileOperate d f (fun v => plainOut (swapNibbles v)) plainMove s)

/-- XORWF, "(W) .XOR. (f) → (destination)" (R162). -/
def execXorwf (d : Dest) (f : BitVec 7) (s : State) : Result :=
  .next (fileOperate d f (fun v => zOut (s.w ^^^ v)) plainMove s)

end Sys2Proof.Machine
end

