-- ==== Sys2Proof/Machine/LiteralControl.lean ====
section
/-! DEFINITION. The literal and control operations (42_literal_and_control.md rules R191 to R203). -/

namespace Sys2Proof.Machine

/-- ADDLW, "(W) + k → (W)" (R191). -/
def execAddlw (k : Byte) (s : State) : Result := .next (literalOperate (addOut s.w k) s)

/-- ANDLW, "(W) .AND. (k) → (W)" (R192). -/
def execAndlw (k : Byte) (s : State) : Result := .next (literalOperate (zOut (s.w &&& k)) s)

/-- CALL, "(PC)+1 → TOS, k → PC<10:0>, (PCLATH<4:3>) → PC<12:11>" (R193). -/
def execCall (k : BitVec 11) (s : State) : Result :=
  .next (branchTo (longTarget k s) (push (s.pc + 1#13) s))

/-- CLRWDT, "00h → WDT, 0 → WDT prescaler, 1 → TO, 1 → PD" (R194). -/
def execClrwdt (s : State) : Result :=
  .next (advance (((clearWatchdog s).putStatus 4 true).putStatus 3 true))

/-- GOTO, "k → PC<10:0>, PCLATH<4:3> → PC<12:11>" (R195). -/
def execGoto (k : BitVec 11) (s : State) : Result := .next (branchTo (longTarget k s) s)

/-- IORLW, "(W) .OR. k → (W)" (R196). -/
def execIorlw (k : Byte) (s : State) : Result := .next (literalOperate (zOut (s.w ||| k)) s)

/-- MOVLW, "k → (W)" (R197). -/
def execMovlw (k : Byte) (s : State) : Result := .next (literalOperate (plainOut k) s)

/-- RETFIE, "TOS → PC, 1 → GIE" (R198). -/
def execRetfie (s : State) : Result := .next (returnFromInterrupt s)

/-- RETLW, "k → (W); TOS → PC" (R199). -/
def execRetlw (k : Byte) (s : State) : Result := .next (popToPc { s with w := k })

/-- RETURN, "TOS → PC" (R200). -/
def execReturn (s : State) : Result := .next (popToPc s)

/-- SLEEP, "00h → WDT, 0 → WDT prescaler, 1 → TO, 0 → PD", and the core is asleep (R201). -/
def execSleep (s : State) : Result :=
  .next { advance (((clearWatchdog s).putStatus 4 true).putStatus 3 false) with asleep := true }

/-- SUBLW, "k - (W) → (W)" (R202). -/
def execSublw (k : Byte) (s : State) : Result := .next (literalOperate (subOut k s.w) s)

/-- XORLW, "(W) .XOR. k → (W)" (R203). -/
def execXorlw (k : Byte) (s : State) : Result := .next (literalOperate (zOut (s.w ^^^ k)) s)

end Sys2Proof.Machine
end

