-- ==== Sys2Proof/Machine/OptionTris.lean ====
section
/-! DEFINITION. The compatibility instructions OPTION and TRIS (43_option_tris.md rules R220, R221). -/

namespace Sys2Proof.Machine

/-- OPTION, "(W) → OPTION", whatever RP0 is (R220). -/
def execOption (s : State) : Result := .next { advance s with optionReg := s.w }

/-- TRIS, "(W) → TRIS register f": 5 TRISA, 6 TRISB, 7 nothing (R221). An operand outside 5 to 7 is no
instruction, and no word decodes to it (log 19). -/
def execTris (f : BitVec 3) (s : State) : Result :=
  match f.toNat with
  | 5 => .next { advance s with trisA := s.w.extractLsb' 0 5 }
  | 6 => .next { advance s with trisB := s.w }
  | 7 => .next (advance s)
  | _ => .refused (.illFormedTris f)

end Sys2Proof.Machine
end

