-- ==== Sys2Proof/Machine/Step.lean ====
section
/-! DEFINITION. One step of the machine (00_scope.md rule R11). -/

namespace Sys2Proof.Machine

/-- The end of an instruction: the cycles it took pass, and a deferral is over (R246, R256, R298). -/
def endStep (before after : State) : State :=
  { passCycles (after.cycles - before.cycles) after with deferIrq := false }

/-- The interrupt entry as a core step, with its two cycles (R240, R298); it breaks the unlock sequence
(R260; log 12). -/
def interruptStep (s : State) : State :=
  { passCycles 2 (takeInterrupt s) with eeSequence := 0#3 }

/-- One step: the agents act, and then the core sleeps on, or takes an interrupt, or fetches, decodes
and executes one instruction, counted in the unlock sequence (R11, R238, R256; log 12). -/
def step (s₀ : State) : Host.Outcome State Fault Refusal :=
  let s := runAgents s₀
  if s.asleep then .next s
  else if interruptDue s then .next (interruptStep s)
  else
    match decode (fetch s) with
    | .error _ => .refused (.reserved (fetch s))
    | .ok i =>
      match exec i (countSequence i s) with
      | .next t => .next (endStep s t)
      | .fault r => .fault r
      | .refused r => .refused r

/-- The state with an instruction word placed where the next step fetches, loaded from outside the
machine (log 6): no agent acts before that step, the core is awake, and no interrupt goes first. -/
def State.withFetchWord (s : State) (_nbits w : Nat) : State :=
  loadWord s.pc (BitVec.ofNat 14 w) (quietNext s)

end Sys2Proof.Machine
end

