-- ==== Sys2Proof/Safety.lean ====
section
/-! DEFINITION. The terms in which claims about the machine are stated: the invariant, the location an
instruction writes, the two ends of a run, and the premise about the watchdog. -/

namespace Sys2Proof.Machine

/-- The count of the unlock sequence agrees with W and `ee_unlock`, so that a complete sequence always meets
`ee_unlock` = 2 (R260; log 12). -/
abbrev State.SequenceAgrees (s : State) : Prop :=
  s.eeSequence.toNat ≤ 5 ∧
  (s.eeSequence = 1#3 → s.w = 0x55#8) ∧
  (s.eeSequence = 2#3 → s.eeUnlock = 1#2) ∧
  (s.eeSequence = 3#3 → s.w = 0xAA#8 ∧ s.eeUnlock = 1#2) ∧
  (s.eeSequence = 4#3 → s.eeUnlock = 2#2)

/-- What every step keeps: the three memories in canonical form and inside their address spaces (R42,
R44, R81), RD clear between steps (R259), a legal `ee_unlock` (R260), the count of the unlock sequence
in agreement with it (log 12), a deferral only while the core is awake (R256), and the watchdog's mark
not in the future (log 9). -/
abbrev State.Inv (s : State) : Prop :=
  s.ram.wf = true ∧ s.ram.within 0x0C 0x30 = true ∧
  s.ee.wf = true ∧ s.ee.within 0 64 = true ∧
  s.prog.wf = true ∧ s.prog.within 0 1024 = true ∧
  s.rd = false ∧ s.eeUnlock ≠ 3#2 ∧ s.SequenceAgrees ∧
  (s.deferIrq = true → s.asleep = false) ∧
  s.wdtMark ≤ s.cycles

/-- The file address written by a destination `d` with field `f` (R140, R141). -/
def destAddress (d : Dest) (f : BitVec 7) (s : State) : Option Byte :=
  match d with
  | .w => none
  | .f => some (ea f s)

/-- The register file address an instruction writes, if it writes one (R90). -/
def storeAddress (i : Instr) (s : State) : Option Byte :=
  match i with
  | .addwf d f | .andwf d f | .comf d f | .decf d f | .decfsz d f | .incf d f => destAddress d f s
  | .incfsz d f | .iorwf d f | .movf d f | .rlf d f | .rrf d f | .subwf d f => destAddress d f s
  | .swapf d f | .xorwf d f => destAddress d f s
  | .clrf f | .movwf f | .bcf f _ | .bsf f _ => some (ea f s)
  | .clrw | .nop | .btfsc _ _ | .btfss _ _ => none
  | .addlw _ | .andlw _ | .call _ | .clrwdt | .goto _ | .iorlw _ | .movlw _ | .retfie => none
  | .retlw _ | .ret | .sleep | .sublw _ | .xorlw _ | .option | .tris _ => none

/-- The register file address an instruction reads, if it reads one: every instruction with a field `f`,
CLRF and MOVWF included (R90). -/
def readAddress (i : Instr) (s : State) : Option Byte :=
  match i with
  | .addwf _ f | .andwf _ f | .comf _ f | .decf _ f | .decfsz _ f | .incf _ f => some (ea f s)
  | .incfsz _ f | .iorwf _ f | .movf _ f | .rlf _ f | .rrf _ f | .subwf _ f => some (ea f s)
  | .swapf _ f | .xorwf _ f | .clrf f | .movwf f => some (ea f s)
  | .bcf f _ | .bsf f _ | .btfsc f _ | .btfss f _ => some (ea f s)
  | .clrw | .nop | .addlw _ | .andlw _ | .call _ | .clrwdt | .goto _ | .iorlw _ | .movlw _ => none
  | .retfie | .retlw _ | .ret | .sleep | .sublw _ | .xorlw _ | .option | .tris _ => none

/-- The location an instruction reads, if it reads one. -/
def readLocation (i : Instr) (s : State) : Option Loc := (readAddress i s).map locOf

/-- The location an instruction writes, if it writes one. -/
def storeLoc (i : Instr) (s : State) : Option Loc := (storeAddress i s).map locOf

/-- Whether an instruction writes W (R20). -/
def writesW (i : Instr) : Bool :=
  match i with
  | .addwf d _ | .andwf d _ | .comf d _ | .decf d _ | .decfsz d _ | .incf d _ => d == .w
  | .incfsz d _ | .iorwf d _ | .movf d _ | .rlf d _ | .rrf d _ | .subwf d _ => d == .w
  | .swapf d _ | .xorwf d _ => d == .w
  | .clrw | .movlw _ | .retlw _ | .addlw _ | .andlw _ | .iorlw _ | .sublw _ | .xorlw _ => true
  | .clrf _ | .movwf _ | .nop | .bcf _ _ | .bsf _ _ | .btfsc _ _ | .btfss _ _ => false
  | .call _ | .clrwdt | .goto _ | .retfie | .ret | .sleep | .option | .tris _ => false

/-- Whether an instruction's "Status Affected" lists Z (R53). -/
def affectsZ (i : Instr) : Bool :=
  match i with
  | .addwf _ _ | .subwf _ _ | .addlw _ | .sublw _ => true
  | .andwf _ _ | .clrf _ | .clrw | .comf _ _ | .decf _ _ | .incf _ _ | .iorwf _ _ => true
  | .movf _ _ | .xorwf _ _ | .andlw _ | .iorlw _ | .xorlw _ => true
  | .rlf _ _ | .rrf _ _ | .clrwdt | .sleep => false
  | .decfsz _ _ | .incfsz _ _ | .movwf _ | .nop | .swapf _ _ | .bcf _ _ | .bsf _ _ => false
  | .btfsc _ _ | .btfss _ _ | .call _ | .goto _ | .movlw _ | .retfie | .retlw _ | .ret => false
  | .option | .tris _ => false

/-- Whether an instruction's "Status Affected" lists DC (R53). -/
def affectsDC (i : Instr) : Bool :=
  match i with
  | .addwf _ _ | .subwf _ _ | .addlw _ | .sublw _ => true
  | .andwf _ _ | .clrf _ | .clrw | .comf _ _ | .decf _ _ | .incf _ _ | .iorwf _ _ => false
  | .movf _ _ | .xorwf _ _ | .andlw _ | .iorlw _ | .xorlw _ => false
  | .rlf _ _ | .rrf _ _ | .clrwdt | .sleep => false
  | .decfsz _ _ | .incfsz _ _ | .movwf _ | .nop | .swapf _ _ | .bcf _ _ | .bsf _ _ => false
  | .btfsc _ _ | .btfss _ _ | .call _ | .goto _ | .movlw _ | .retfie | .retlw _ | .ret => false
  | .option | .tris _ => false

/-- Whether an instruction's "Status Affected" lists C (R53). -/
def affectsC (i : Instr) : Bool :=
  match i with
  | .addwf _ _ | .subwf _ _ | .addlw _ | .sublw _ | .rlf _ _ | .rrf _ _ => true
  | .andwf _ _ | .clrf _ | .clrw | .comf _ _ | .decf _ _ | .incf _ _ | .iorwf _ _ => false
  | .movf _ _ | .xorwf _ _ | .andlw _ | .iorlw _ | .xorlw _ | .clrwdt | .sleep => false
  | .decfsz _ _ | .incfsz _ _ | .movwf _ | .nop | .swapf _ _ | .bcf _ _ | .bsf _ _ => false
  | .btfsc _ _ | .btfss _ _ | .call _ | .goto _ | .movlw _ | .retfie | .retlw _ | .ret => false
  | .option | .tris _ => false

/-- End (a) of a run: the core is about to execute a GOTO to its own address, with no interrupt possible
and no agent step to come (R301): none is scheduled, and Timer0, whose agent under `cycle` counts
inside a step (log 21), does not count cycles, being in counter mode then (R246). -/
def IdleLoop (s : State) : Prop :=
  s.asleep = false ∧ (∀ es ∈ s.schedule, es = []) ∧
  (s.cfg.tmr0Policy = .cycle → s.t0cs = true) ∧
  fetch s = (0b101#3 ++ s.pc.extractLsb' 0 11 : BitVec 14) ∧
  s.pclath.extractLsb' 3 2 = s.pc.extractLsb' 11 2 ∧
  (s.gie = false ∨ irq s = false)

/-- Whether an agent step ends the sleep of a core in the state `s`, in one of the three ways of R256: a
MCLR reset, a watchdog time-out with the watchdog enabled, or an event after which an enabled source
other than TMR0 requests. -/
def endsSleep (e : AgentStep) (s : State) : Bool :=
  !(agentStep e s).asleep || wakeRequest (agentStep e s)

/-- End (b) of a run: asleep, and no wake-up event is possible: no enabled source requests, and no agent
step to come ends the sleep (R301, R256). Agent steps that do not may still come. What decides whether one
ends the sleep (the enable bits, the edge, the pins, WR) does not change while the core sleeps, but for WR,
which only a write completed with EEIE = 0 clears; so each is judged in `s`. -/
def PermanentSleep (s : State) : Prop :=
  s.asleep = true ∧ wakeRequest s = false ∧ ∀ es ∈ s.schedule, ∀ e ∈ es, endsSleep e s = false

/-- The premise `wdt_min_cycles` of R249 for the next step: while the core is awake the watchdog times
out only when at least `m` instruction cycles have passed since its last clear (log 9). -/
def WatchdogPremise (m : Nat) (s : State) : Prop :=
  s.asleep = false → AgentStep.wdtTimeout ∈ s.schedule.headD [] → s.wdtMark + m ≤ s.cycles

/-- `t` is the state in which the result `r` has gone to the destination `d` at the file address `a`
(R141), starting from `u`, but for the bits Z, DC, C of STATUS, of which a statement speaks apart. -/
def StoresBesideFlags (d : Dest) (a r : Byte) (u t : State) : Prop :=
  t = { storeResult true d a r u with status := t.status } ∧
  t.status.extractLsb' 3 5 = (storeResult true d a r u).status.extractLsb' 3 5

/-- The state after the first cycle of an instruction that reads the file address `a`: the read done and
the program counter at the next instruction (R90, R140). -/
def readAndAdvance (a : Byte) (s : State) : State := advance (afterRead a s)

/-- Several instructions run one after another, each counted in the unlock sequence as a step counts it,
for statements about a sequence. -/
def execList (is : List Instr) (s : State) : Result :=
  match is with
  | [] => .next s
  | i :: rest =>
    match exec i (countSequence i s) with
    | .next t => execList rest t
    | .fault r => .fault r
    | .refused r => .refused r

/-- The values pushed one after another (R24). -/
def pushAll (vs : List ProgAddr) (s : State) : State :=
  match vs with
  | [] => s
  | v :: rest => pushAll rest (push v s)

/-- The cycles of R298: one, or two for a transfer of control, a taken skip, or a write of PCL. -/
def cyclesOf (i : Instr) (s t : State) : Nat :=
  match i with
  | .call _ | .goto _ | .ret | .retlw _ | .retfie => 2
  | .decfsz _ _ | .incfsz _ _ | .btfsc _ _ | .btfss _ _ => if t.pc = s.pc + 2#13 then 2 else 1
  | .addwf _ _ | .andwf _ _ | .clrf _ | .comf _ _ | .decf _ _ | .incf _ _ | .iorwf _ _ | .movf _ _
  | .movwf _ | .rlf _ _ | .rrf _ _ | .subwf _ _ | .swapf _ _ | .xorwf _ _ | .bcf _ _ | .bsf _ _ =>
    if storeLoc i s = some .pcl then 2 else 1
  | .clrw | .nop | .addlw _ | .andlw _ | .clrwdt | .iorlw _ | .movlw _ | .sleep | .sublw _
  | .xorlw _ | .option | .tris _ => 1

/-- The byte an instruction stores at its file address when it reads `v` there and its destination is the
file register, from the operation line of each rule (R145 to R162, R181, R182). The other instructions
store none. -/
def storedByte (i : Instr) (v : Byte) (s : State) : Option Byte :=
  match i with
  | .addwf .f _ => some (s.w + v)
  | .andwf .f _ => some (s.w &&& v)
  | .clrf _ => some 0x00#8
  | .comf .f _ => some (~~~v)
  | .decf .f _ | .decfsz .f _ => some (v - 1#8)
  | .incf .f _ | .incfsz .f _ => some (v + 1#8)
  | .iorwf .f _ => some (s.w ||| v)
  | .movf .f _ => some v
  | .movwf _ => some s.w
  | .rlf .f _ => some (v.extractLsb' 0 7 ++ BitVec.ofBool s.carry : BitVec 8)
  | .rrf .f _ => some (BitVec.ofBool s.carry ++ v.extractLsb' 1 7 : BitVec 8)
  | .subwf .f _ => some (v - s.w)
  | .swapf .f _ => some (v.extractLsb' 0 4 ++ v.extractLsb' 4 4 : BitVec 8)
  | .xorwf .f _ => some (s.w ^^^ v)
  | .bcf _ b => some (v &&& ~~~(1#8 <<< b.toNat))
  | .bsf _ b => some (v ||| (1#8 <<< b.toNat))
  | .addwf .w _ | .andwf .w _ | .comf .w _ | .decf .w _ | .decfsz .w _ | .incf .w _ => none
  | .incfsz .w _ | .iorwf .w _ | .movf .w _ | .rlf .w _ | .rrf .w _ | .subwf .w _ => none
  | .swapf .w _ | .xorwf .w _ | .clrw | .nop | .btfsc _ _ | .btfss _ _ => none
  | .addlw _ | .andlw _ | .call _ | .clrwdt | .goto _ | .iorlw _ | .movlw _ | .retfie => none
  | .retlw _ | .ret | .sleep | .sublw _ | .xorlw _ | .option | .tris _ => none

/-- The targets R204 allows the program counter after an instruction; a write of PCL gives
`PCLATH[4:0] : value`, where the value is computed from the byte read at PCL (R22). -/
def PcTargetAllowed (i : Instr) (s t : State) : Prop :=
  match i with
  | .goto k | .call k => t.pc = (s.pclath.extractLsb' 3 2 ++ k : BitVec 13)
  | .ret | .retlw _ | .retfie => t.pc = s.stackAt (s.sp - 1#3)
  | .decfsz _ _ | .incfsz _ _ | .btfsc _ _ | .btfss _ _ =>
    t.pc = s.pc + 1#13 ∨ t.pc = s.pc + 2#13
  | .addwf _ _ | .andwf _ _ | .clrf _ | .comf _ _ | .decf _ _ | .incf _ _ | .iorwf _ _ | .movf _ _
  | .movwf _ | .rlf _ _ | .rrf _ _ | .subwf _ _ | .swapf _ _ | .xorwf _ _ | .bcf _ _ | .bsf _ _ =>
    (storeLoc i s ≠ some .pcl → t.pc = s.pc + 1#13) ∧
    (storeLoc i s = some .pcl → ∃ r, storedByte i ((s.pc + 1#13).extractLsb' 0 8) s = some r ∧
      t.pc = (s.pclath ++ r : BitVec 13))
  | .clrw | .nop | .addlw _ | .andlw _ | .clrwdt | .iorlw _ | .movlw _ | .sleep | .sublw _
  | .xorlw _ | .option | .tris _ => t.pc = s.pc + 1#13

end Sys2Proof.Machine
end

