-- ==== Sys2Proof/Certificates/Slice0/Obligations.lean ====
section
/-! DEFINITION. The statements for the provers. -/

open Sys2Proof Sys2Proof.Machine

/-! ### Encoding -/

/-- Decoding the word of any well-formed instruction gives that instruction back, with every operand at
every value its field admits (30_encoding.md R110 to R118). -/
def Obligations.DecodeOfEncodeIsIdentity : Prop :=
  ∀ i : Instr, i.wellFormed = true → decode (encode i) = .ok i

/-- The decoder follows the opcode table row by row, and refuses by name what no row covers; no two rows
apply to one word (R118, R126). -/
def Obligations.DecodeFollowsOpcodeTable : Prop :=
  (∀ w : CodeWord, ∀ r ∈ opcodeTable, r.applies w = true →
    ∃ i, decode w = .ok i ∧ i.mnemonic = r.mnemonic) ∧
  (∀ w : CodeWord, (∀ r ∈ opcodeTable, r.applies w = false) → decode w = .error (.reserved w)) ∧
  opcodeTable.Pairwise
    (fun r q => (r.bits &&& r.mask &&& q.mask) ≠ (q.bits &&& r.mask &&& q.mask))

/-- A word that decodes is its instruction's own word but for the don't-care bits, which do not matter
(R116, R117). -/
def Obligations.DecodedWordDiffersOnlyInDontCareBits : Prop :=
  (∀ (w : CodeWord) (i : Instr), decode w = .ok i →
    i.wellFormed = true ∧ encode i = w &&& ~~~i.dontCare) ∧
  (∀ (i : Instr) (x : CodeWord), i.wellFormed = true →
    decode (encode i ||| (x &&& i.dontCare)) = .ok i)

/-- The reserved words are exactly those R119 lists; the decoder reports each by name, and a core about to
execute one refuses the step. -/
def Obligations.ReservedWordsAreExactlyTheListedOnes : Prop :=
  (∀ w : CodeWord, decode w = .error (.reserved w) ↔
    (0x0001 ≤ w.toNat ∧ w.toNat ≤ 0x0007) ∨ (0x000A ≤ w.toNat ∧ w.toNat ≤ 0x001F) ∨
    (0x0021 ≤ w.toNat ∧ w.toNat ≤ 0x003F) ∨ (0x0041 ≤ w.toNat ∧ w.toNat ≤ 0x005F) ∨
    w.toNat = 0x0061 ∨ (0x0068 ≤ w.toNat ∧ w.toNat ≤ 0x007F) ∨
    (0x3B00 ≤ w.toNat ∧ w.toNat ≤ 0x3BFF)) ∧
  (∀ (s₀ : State) (w : CodeWord), (runAgents s₀).asleep = false →
    interruptDue (runAgents s₀) = false → fetch (runAgents s₀) = w →
    decode w = .error (.reserved w) → step s₀ = .refused (.reserved w))

/-- Words written out from the spec's encodings decode to their instructions (R125, R126). -/
def Obligations.WrittenOutWordsDecode : Prop :=
  decode 0x0704#14 = .ok (.addwf .w 0x04#7) ∧ decode 0x0584#14 = .ok (.andwf .f 0x04#7) ∧
  decode 0x138C#14 = .ok (.bcf 0x0C#7 7#3) ∧ decode 0x2123#14 = .ok (.call 0x123#11) ∧
  decode 0x2FFF#14 = .ok (.goto 0x7FF#11) ∧ decode 0x0081#14 = .ok (.movwf 0x01#7) ∧
  decode 0x3441#14 = .ok (.retlw 0x41#8) ∧ decode 0x3E15#14 = .ok (.addlw 0x15#8) ∧
  decode 0x0100#14 = .ok .clrw ∧ decode 0x0000#14 = .ok .nop ∧ decode 0x0066#14 = .ok (.tris 6#3)

/-! ### The step -/

/-- When the word at the program counter decodes to an instruction, and the core is awake with no
interrupt due, step is exec of that instruction (R11), and a deferral ends with it (R256). The model's
choices here: that the instruction's cycles pass for Timer0 after all its effects is log 21, and that
the instruction is counted in the unlock sequence before it executes is log 12. -/
def Obligations.StepExecutesDecodedInstruction : Prop :=
  ∀ (s₀ : State) (i : Instr),
    (runAgents s₀).asleep = false → interruptDue (runAgents s₀) = false →
    decode ((runAgents s₀).prog.read ((runAgents s₀).pc.extractLsb' 0 10).toNat) = .ok i →
    (∀ t, exec i (countSequence i (runAgents s₀)) = .next t →
      step s₀ =
        .next { passCycles (t.cycles - (runAgents s₀).cycles) t with deferIrq := false }) ∧
    (∀ r, exec i (countSequence i (runAgents s₀)) = .refused r → step s₀ = .refused r)

/-- Every step answers a next state, or refuses the word at the program counter; the core is then awake
with no interrupt due, and the word is reserved or a skip counter whose destination is PCL
(R119, R230, U7). That there is no other refusal is the model's choice: it does not raise Unwritten on
a read of state that holds no value (R52, R24), since every register, stack entry and memory cell holds
a named value (logs 1, 2, 3). -/
def Obligations.StepAnswersNextOrRefusesTheFetchedWord : Prop :=
  ∀ s₀ : State,
    (∃ t, step s₀ = .next t) ∨
    (step s₀ = .refused (.reserved (fetch (runAgents s₀))) ∧
      (runAgents s₀).asleep = false ∧ interruptDue (runAgents s₀) = false ∧
      (decode (fetch (runAgents s₀)) = .error (.reserved (fetch (runAgents s₀))) ∨
        ∃ f, (decode (fetch (runAgents s₀)) = .ok (.decfsz .f f) ∨
            decode (fetch (runAgents s₀)) = .ok (.incfsz .f f)) ∧
          (ea f (runAgents s₀) = 0x02#8 ∨ ea f (runAgents s₀) = 0x82#8)))

/-- The values the spec gives for Power-on Reset (R48, R49, R280, R283). -/
def Obligations.PowerOnResetValues : Prop :=
  State.reset.pc = 0x0000#13 ∧ State.reset.pclath = 0#5 ∧
  State.reset.status.extractLsb' 3 5 = 0b00011#5 ∧
  State.reset.intcon.extractLsb' 1 7 = 0#7 ∧ State.reset.optionReg = 0xFF#8 ∧
  State.reset.trisA = 0b11111#5 ∧ State.reset.trisB = 0xFF#8 ∧
  State.reset.eeif = false ∧ State.reset.wren = false ∧ State.reset.wr = false ∧
  State.reset.rd = false ∧ State.reset.sp = 0#3 ∧ State.reset.wdt = 0 ∧
  State.reset.psc = 0x00#8 ∧ State.reset.asleep = false ∧ State.reset.deferIrq = false ∧
  State.reset.eeUnlock = 0#2

/-- The invariant holds after Power-on Reset (R48, R49, R280). The model's choices in it: the three memories
list nothing at reset (log 3), the count of the unlock sequence is 0 (log 12), and the watchdog's mark is
not in the future (log 9). -/
def Obligations.InvariantHoldsAtReset : Prop := State.reset.Inv

/-- Every step keeps the invariant, from every state that has it: the memories stay canonical and inside
their address spaces, RD reads 0 between steps, `ee_unlock` stays legal, and only an awake core
defers an interrupt. The model's own fields in it: the count of the unlock sequence agrees with W and
`ee_unlock` (log 12), and the watchdog's mark is not in the future (log 9). -/
def Obligations.StepKeepsInvariant : Prop :=
  ∀ s t : State, s.Inv → step s = .next t → t.Inv

/-- No step writes program memory or the configuration (R54, R97). -/
def Obligations.StepNeverWritesProgramMemory : Prop :=
  ∀ s t : State, step s = .next t → t.prog = s.prog ∧ t.cfg = s.cfg

/-! ### The register file -/

/-- `ea(f)` for direct and indirect addressing; RP0 and FSR alone take part (R83, R84). -/
def Obligations.FileAddressFromFieldAndBank : Prop :=
  (∀ (f : BitVec 7) (s : State), f ≠ 0#7 →
    (ea f s).getLsbD 7 = s.status.getLsbD 5 ∧ (ea f s).extractLsb' 0 7 = f) ∧
  (∀ s : State, ea 0#7 s = s.fsr) ∧
  (∀ (f : BitVec 7) (s t : State), s.status.getLsbD 5 = t.status.getLsbD 5 → s.fsr = t.fsr →
    ea f s = ea f t) ∧
  (∀ (s : State), s.fsr.extractLsb' 0 7 = 0#7 →
    fileValue (ea 0#7 s) s = 0x00#8 ∧
    ∀ (affects : Bool) (v : Byte), fileWrite affects (ea 0#7 s) v s = s)

/-- What every register file address reads as (R86), and that a read changes nothing but, at PORTA and
PORTB, what its side effects are (R91): a read of PORTB ends the change mismatch by taking the levels of
RB7..RB4 into the latch they are compared with (R254). The model's choices here: that a read of a port
moves the counter `draws`, so that the next read draws afresh, is log 8, and the levels `pinsA` and
`pinsB` of R252 are free values by log 7. -/
def Obligations.FileReadsFollowTheMap : Prop :=
  ∀ s : State,
    fileValue 0x00#8 s = 0x00#8 ∧ fileValue 0x80#8 s = 0x00#8 ∧
    fileValue 0x01#8 s = s.tmr0 ∧ fileValue 0x81#8 s = s.optionReg ∧
    fileValue 0x02#8 s = (s.pc + 1#13).extractLsb' 0 8 ∧
    fileValue 0x82#8 s = (s.pc + 1#13).extractLsb' 0 8 ∧
    fileValue 0x03#8 s = s.status ∧ fileValue 0x83#8 s = s.status ∧
    fileValue 0x04#8 s = s.fsr ∧ fileValue 0x84#8 s = s.fsr ∧
    fileValue 0x05#8 s = (0#3 ++ pinsA s : BitVec 8) ∧
    fileValue 0x85#8 s = (0#3 ++ s.trisA : BitVec 8) ∧
    fileValue 0x06#8 s = pinsB s ∧ fileValue 0x86#8 s = s.trisB ∧
    fileValue 0x07#8 s = 0x00#8 ∧ fileValue 0x87#8 s = 0x00#8 ∧
    fileValue 0x08#8 s = s.eedata ∧ fileValue 0x88#8 s = (0#3 ++ s.eecon1 : BitVec 8) ∧
    fileValue 0x09#8 s = s.eeadr ∧ fileValue 0x89#8 s = 0x00#8 ∧
    fileValue 0x0A#8 s = (0#3 ++ s.pclath : BitVec 8) ∧
    fileValue 0x8A#8 s = (0#3 ++ s.pclath : BitVec 8) ∧
    fileValue 0x0B#8 s = s.intcon ∧ fileValue 0x8B#8 s = s.intcon ∧
    (∀ a : Byte, 0x0C ≤ (a.extractLsb' 0 7).toNat → (a.extractLsb' 0 7).toNat ≤ 0x2F →
      fileValue a s = s.ram.read (a.extractLsb' 0 7).toNat) ∧
    (∀ a : Byte, 0x30 ≤ (a.extractLsb' 0 7).toNat → fileValue a s = 0x00#8) ∧
    afterRead 0x06#8 s = { s with draws := s.draws + 1, rbLatch := (pinsB s).extractLsb' 4 4 } ∧
    afterRead 0x05#8 s = { s with draws := s.draws + 1 } ∧
    (∀ a : Byte, a ≠ 0x05#8 → a ≠ 0x06#8 → afterRead a s = s)

/-- What a write to every register file address does, and that it does nothing else (R87), but for STATUS
(03h, 83h), EECON1 (88h) and EECON2 (89h), whose writes have statements of their own,
StatusAsDestination and EepromControlWrites. That a write of TMR0 holds the count for three cycles
(`t0Inhibit` := 3) is the model's choice, log 21. And what a destination `d` is: the result goes to W and
nothing is written to the register file, or it is written to the register file (R141). -/
def Obligations.FileWritesFollowTheMap : Prop :=
  ∀ (affects : Bool) (v : Byte) (s : State),
    fileWrite affects 0x00#8 v s = s ∧ fileWrite affects 0x80#8 v s = s ∧
    fileWrite affects 0x01#8 v s =
      { s with
        tmr0 := v
        psc := if s.optionReg.getLsbD 3 then s.psc else 0x00#8
        t0Inhibit := 3#2 } ∧
    fileWrite affects 0x81#8 v s = { s with optionReg := v } ∧
    (∀ a : Byte, a = 0x02#8 ∨ a = 0x82#8 →
      fileWrite affects a v s =
        { s with pc := (s.pclath ++ v : BitVec 13), cycles := s.cycles + 1 }) ∧
    (∀ a : Byte, a = 0x04#8 ∨ a = 0x84#8 → fileWrite affects a v s = { s with fsr := v }) ∧
    fileWrite affects 0x05#8 v s = { s with latA := v.extractLsb' 0 5 } ∧
    fileWrite affects 0x85#8 v s = { s with trisA := v.extractLsb' 0 5 } ∧
    fileWrite affects 0x06#8 v s = { s with latB := v } ∧
    fileWrite affects 0x86#8 v s = { s with trisB := v } ∧
    fileWrite affects 0x07#8 v s = s ∧ fileWrite affects 0x87#8 v s = s ∧
    fileWrite affects 0x08#8 v s = { s with eedata := v } ∧
    fileWrite affects 0x09#8 v s = { s with eeadr := v } ∧
    (∀ a : Byte, a = 0x0A#8 ∨ a = 0x8A#8 →
      fileWrite affects a v s = { s with pclath := v.extractLsb' 0 5 }) ∧
    (∀ a : Byte, a = 0x0B#8 ∨ a = 0x8B#8 → fileWrite affects a v s = { s with intcon := v }) ∧
    (∀ a : Byte, 0x0C ≤ (a.extractLsb' 0 7).toNat → (a.extractLsb' 0 7).toNat ≤ 0x2F →
      fileWrite affects a v s = { s with ram := s.ram.write (a.extractLsb' 0 7).toNat v }) ∧
    (∀ a : Byte, 0x30 ≤ (a.extractLsb' 0 7).toNat → fileWrite affects a v s = s) ∧
    (∀ a : Byte, storeResult affects .w a v s = { s with w := v } ∧
      storeResult affects .f a v s = fileWrite affects a v s)

/-- A general purpose register is one byte seen in both banks: a write through either address is read
back through both, and every other general purpose register is untouched (R42). -/
def Obligations.GeneralPurposeRegistersAreSharedByBothBanks : Prop :=
  ∀ (affects : Bool) (a b v : Byte) (s : State), s.ram.wf = true →
    0x0C ≤ (a.extractLsb' 0 7).toNat → (a.extractLsb' 0 7).toNat ≤ 0x2F →
    fileValue a (fileWrite affects a v s) = v ∧
    fileValue (a ^^^ 0x80#8) (fileWrite affects a v s) = v ∧
    (0x0C ≤ (b.extractLsb' 0 7).toNat → (b.extractLsb' 0 7).toNat ≤ 0x2F →
      b.extractLsb' 0 7 ≠ a.extractLsb' 0 7 →
      fileValue b (fileWrite affects a v s) = fileValue b s)

/-- A write to STATUS: bits 7:5 are written, TO and PD are not, and Z, DC, C are written only by an
instruction that affects none of them; nothing else changes. CLRF STATUS leaves `000u u1uu` (R29). -/
def Obligations.StatusAsDestination : Prop :=
  (∀ (affects : Bool) (a v : Byte) (s t : State), a = 0x03#8 ∨ a = 0x83#8 →
    fileWrite affects a v s = t →
    t = { s with status := t.status } ∧
    (∀ j, 5 ≤ j → t.status.getLsbD j = v.getLsbD j) ∧
    (∀ j, 3 ≤ j → j ≤ 4 → t.status.getLsbD j = s.status.getLsbD j) ∧
    (∀ j, j ≤ 2 → t.status.getLsbD j = if affects then s.status.getLsbD j else v.getLsbD j)) ∧
  (∀ s : State, ∃ t, exec (.clrf 0x03#7) s = .next t ∧
    t.status.extractLsb' 5 3 = 0#3 ∧ t.timeOut = s.timeOut ∧ t.powerDown = s.powerDown ∧
    t.zero = true ∧ t.digitCarry = s.digitCarry ∧ t.carry = s.carry)

/-- A port reads its latch on an output pin and the environment's level on an input pin; RA4 is open
drain (R252). Of these clauses R252 itself says that an output pin reading back its latch "is the spec's
assumption", and that RA4 is open drain is "from general knowledge, not in source". That the levels are
the free values `Config.pinsA` and `Config.pinsB` is the model's choice, log 7. -/
def Obligations.PortsReadLatchOrPin : Prop :=
  ∀ s : State,
    (∀ j, j < 8 → (pinsB s).getLsbD j =
      if s.trisB.getLsbD j then (Config.pinsB s.draws).getLsbD j else s.latB.getLsbD j) ∧
    (∀ j, j < 4 → (pinsA s).getLsbD j =
      if s.trisA.getLsbD j then (Config.pinsA s.draws).getLsbD j else s.latA.getLsbD j) ∧
    (s.trisA.getLsbD 4 = false → s.latA.getLsbD 4 = false → (pinsA s).getLsbD 4 = false) ∧
    (s.trisA.getLsbD 4 = true ∨ s.latA.getLsbD 4 = true →
      (pinsA s).getLsbD 4 = (Config.pinsA s.draws).getLsbD 4)

/-- BSF and BCF on PORTB, read at address 06h in Bank 0, write the pins back into the latch of every other
bit (R290, R91): an input pin's level, an output pin's latch (R252, which gives as its own assumption that
an output pin reads back its latch). That an input pin's level is the free value `Config.pinsB` is the
model's choice, log 7. -/
def Obligations.PortBitInstructionsCopyPinsToLatch : Prop :=
  ∀ (b : BitVec 3) (s : State), s.rp0 = false →
    (∃ t, exec (.bsf 0x06#7 b) s = .next t ∧ t.trisB = s.trisB ∧
      ∀ j, j < 8 → t.latB.getLsbD j =
        if j = b.toNat then true
        else if s.trisB.getLsbD j then (Config.pinsB s.draws).getLsbD j
        else s.latB.getLsbD j) ∧
    (∃ t, exec (.bcf 0x06#7 b) s = .next t ∧ t.trisB = s.trisB ∧
      ∀ j, j < 8 → t.latB.getLsbD j =
        if j = b.toNat then false
        else if s.trisB.getLsbD j then (Config.pinsB s.draws).getLsbD j
        else s.latB.getLsbD j)

/-! ### Arithmetic -/

/-- The result and the flags of an 8-bit addition (R142) and of an 8-bit subtraction (R143). -/
def Obligations.AdditionAndSubtractionFlags : Prop :=
  ∀ a b : Byte,
    (addOut a b).result = a + b ∧
    (addOut a b).flags.c = some (decide (256 ≤ a.toNat + b.toNat)) ∧
    (addOut a b).flags.dc = some (decide (16 ≤ a.toNat % 16 + b.toNat % 16)) ∧
    (addOut a b).flags.z = some (decide (a + b = 0#8)) ∧
    (subOut a b).result = a - b ∧
    (subOut a b).flags.c = some (decide (b.toNat ≤ a.toNat)) ∧
    (subOut a b).flags.dc = some (decide (b.toNat % 16 ≤ a.toNat % 16)) ∧
    (subOut a b).flags.z = some (decide (a = b))

/-- ADDWF and SUBWF: the result to the destination, all three flags from it, nothing else (R145, R160). -/
def Obligations.AddwfAndSubwfResults : Prop :=
  ∀ (d : Dest) (f : BitVec 7) (s : State) (a v : Byte), a = ea f s → v = fileValue a s →
    decode (0b000111#6 ++ d.bit ++ f : BitVec 14) = .ok (.addwf d f) ∧
    decode (0b000010#6 ++ d.bit ++ f : BitVec 14) = .ok (.subwf d f) ∧
    (∃ t, exec (.addwf d f) s = .next t ∧
      StoresBesideFlags d a (s.w + v) (readAndAdvance a s) t ∧
      t.carry = decide (256 ≤ s.w.toNat + v.toNat) ∧
      t.digitCarry = decide (16 ≤ s.w.toNat % 16 + v.toNat % 16) ∧
      t.zero = decide (s.w + v = 0#8)) ∧
    (∃ t, exec (.subwf d f) s = .next t ∧
      StoresBesideFlags d a (v - s.w) (readAndAdvance a s) t ∧
      t.carry = decide (s.w.toNat ≤ v.toNat) ∧
      t.digitCarry = decide (s.w.toNat % 16 ≤ v.toNat % 16) ∧
      t.zero = decide (v = s.w))

/-- ANDWF, IORWF, XORWF: the result to the destination, Z from it, C and DC kept (R146, R154, R162). -/
def Obligations.LogicWithFileResults : Prop :=
  ∀ (d : Dest) (f : BitVec 7) (s : State) (a v : Byte), a = ea f s → v = fileValue a s →
    decode (0b000101#6 ++ d.bit ++ f : BitVec 14) = .ok (.andwf d f) ∧
    decode (0b000100#6 ++ d.bit ++ f : BitVec 14) = .ok (.iorwf d f) ∧
    decode (0b000110#6 ++ d.bit ++ f : BitVec 14) = .ok (.xorwf d f) ∧
    (∃ t, exec (.andwf d f) s = .next t ∧
      StoresBesideFlags d a (s.w &&& v) (readAndAdvance a s) t ∧
      t.zero = decide (s.w &&& v = 0#8) ∧ t.digitCarry = s.digitCarry ∧ t.carry = s.carry) ∧
    (∃ t, exec (.iorwf d f) s = .next t ∧
      StoresBesideFlags d a (s.w ||| v) (readAndAdvance a s) t ∧
      t.zero = decide (s.w ||| v = 0#8) ∧ t.digitCarry = s.digitCarry ∧ t.carry = s.carry) ∧
    (∃ t, exec (.xorwf d f) s = .next t ∧
      StoresBesideFlags d a (s.w ^^^ v) (readAndAdvance a s) t ∧
      t.zero = decide (s.w = v) ∧ t.digitCarry = s.digitCarry ∧ t.carry = s.carry)

/-- COMF, DECF, INCF, MOVF: the result to the destination, Z from it, C and DC kept (R149, R150, R152,
R155). -/
def Obligations.UnaryFileResults : Prop :=
  ∀ (d : Dest) (f : BitVec 7) (s : State) (a v : Byte), a = ea f s → v = fileValue a s →
    decode (0b001001#6 ++ d.bit ++ f : BitVec 14) = .ok (.comf d f) ∧
    decode (0b000011#6 ++ d.bit ++ f : BitVec 14) = .ok (.decf d f) ∧
    decode (0b001010#6 ++ d.bit ++ f : BitVec 14) = .ok (.incf d f) ∧
    decode (0b001000#6 ++ d.bit ++ f : BitVec 14) = .ok (.movf d f) ∧
    (∃ t, exec (.comf d f) s = .next t ∧
      StoresBesideFlags d a (~~~v) (readAndAdvance a s) t ∧
      t.zero = decide (v = 0xFF#8) ∧ t.digitCarry = s.digitCarry ∧ t.carry = s.carry) ∧
    (∃ t, exec (.decf d f) s = .next t ∧
      StoresBesideFlags d a (v - 1#8) (readAndAdvance a s) t ∧
      t.zero = decide (v = 0x01#8) ∧ t.digitCarry = s.digitCarry ∧ t.carry = s.carry) ∧
    (∃ t, exec (.incf d f) s = .next t ∧
      StoresBesideFlags d a (v + 1#8) (readAndAdvance a s) t ∧
      t.zero = decide (v = 0xFF#8) ∧ t.digitCarry = s.digitCarry ∧ t.carry = s.carry) ∧
    (∃ t, exec (.movf d f) s = .next t ∧
      StoresBesideFlags d a v (readAndAdvance a s) t ∧
      t.zero = decide (v = 0x00#8) ∧ t.digitCarry = s.digitCarry ∧ t.carry = s.carry)

/-- CLRF and CLRW: 00h to the register, Z set, C and DC kept; CLRW reads no file register (R147, R148). -/
def Obligations.ClearResults : Prop :=
  ∀ (f x : BitVec 7) (s : State) (a : Byte), a = ea f s →
    decode (0b0000011#7 ++ f : BitVec 14) = .ok (.clrf f) ∧
    decode (0b0000010#7 ++ x : BitVec 14) = .ok .clrw ∧
    (∃ t, exec (.clrf f) s = .next t ∧
      StoresBesideFlags .f a 0x00#8 (readAndAdvance a s) t ∧
      t.zero = true ∧ t.digitCarry = s.digitCarry ∧ t.carry = s.carry) ∧
    (∃ t, exec .clrw s = .next t ∧
      t = { s with w := 0x00#8, status := t.status, pc := s.pc + 1#13, cycles := s.cycles + 1 } ∧
      t.zero = true ∧ ∀ j, j ≠ 2 → t.status.getLsbD j = s.status.getLsbD j)

/-- MOVWF and SWAPF: the value to the destination, no flag as a side effect (R156, R161). -/
def Obligations.MovwfAndSwapfResults : Prop :=
  ∀ (d : Dest) (f : BitVec 7) (s : State) (a v : Byte), a = ea f s → v = fileValue a s →
    decode (0b0000001#7 ++ f : BitVec 14) = .ok (.movwf f) ∧
    decode (0b001110#6 ++ d.bit ++ f : BitVec 14) = .ok (.swapf d f) ∧
    exec (.movwf f) s = .next (fileWrite false a s.w (readAndAdvance a s)) ∧
    exec (.swapf d f) s =
      .next (storeResult false d a (v.extractLsb' 0 4 ++ v.extractLsb' 4 4 : BitVec 8)
        (readAndAdvance a s))

/-- RLF and RRF: a 9-bit rotation of C and the register; Z and DC kept (R158, R159). -/
def Obligations.RotateResults : Prop :=
  ∀ (d : Dest) (f : BitVec 7) (s : State) (a v : Byte), a = ea f s → v = fileValue a s →
    decode (0b001101#6 ++ d.bit ++ f : BitVec 14) = .ok (.rlf d f) ∧
    decode (0b001100#6 ++ d.bit ++ f : BitVec 14) = .ok (.rrf d f) ∧
    (∃ t r, exec (.rlf d f) s = .next t ∧
      StoresBesideFlags d a r (readAndAdvance a s) t ∧
      r.getLsbD 0 = s.carry ∧ (∀ j, j < 7 → r.getLsbD (j + 1) = v.getLsbD j) ∧
      t.carry = v.getLsbD 7 ∧ t.zero = s.zero ∧ t.digitCarry = s.digitCarry) ∧
    (∃ t r, exec (.rrf d f) s = .next t ∧
      StoresBesideFlags d a r (readAndAdvance a s) t ∧
      r.getLsbD 7 = s.carry ∧ (∀ j, j < 7 → r.getLsbD j = v.getLsbD (j + 1)) ∧
      t.carry = v.getLsbD 0 ∧ t.zero = s.zero ∧ t.digitCarry = s.digitCarry)

/-- DECFSZ and INCFSZ with a destination other than PCL: the result to the destination, no flag as a side
effect, and a skip of one word exactly when the result is 0 (R144, R151, R153). -/
def Obligations.SkipCounterResults : Prop :=
  ∀ (d : Dest) (f : BitVec 7) (s : State) (a v : Byte), a = ea f s → v = fileValue a s →
    d = .w ∨ (a ≠ 0x02#8 ∧ a ≠ 0x82#8) →
    decode (0b001011#6 ++ d.bit ++ f : BitVec 14) = .ok (.decfsz d f) ∧
    decode (0b001111#6 ++ d.bit ++ f : BitVec 14) = .ok (.incfsz d f) ∧
    exec (.decfsz d f) s = .next (storeResult false d a (v - 1#8)
      (if v = 0x01#8 then
        { afterRead a s with pc := s.pc + 2#13, cycles := s.cycles + 2 }
      else { afterRead a s with pc := s.pc + 1#13, cycles := s.cycles + 1 })) ∧
    exec (.incfsz d f) s = .next (storeResult false d a (v + 1#8)
      (if v = 0xFF#8 then
        { afterRead a s with pc := s.pc + 2#13, cycles := s.cycles + 2 }
      else { afterRead a s with pc := s.pc + 1#13, cycles := s.cycles + 1 }))

/-- DECFSZ and INCFSZ whose destination is PCL are given no meaning: the model refuses the word (R151,
R153, U7). -/
def Obligations.SkipCountersRefusePclDestination : Prop :=
  ∀ (f : BitVec 7) (s : State), ea f s = 0x02#8 ∨ ea f s = 0x82#8 →
    exec (.decfsz .f f) s = .refused (.reserved (0b0010111#7 ++ f : BitVec 14)) ∧
    exec (.incfsz .f f) s = .refused (.reserved (0b0011111#7 ++ f : BitVec 14))

/-- NOP, in all its four encodings, moves the program counter only (R157). -/
def Obligations.NopOnlyAdvances : Prop :=
  ∀ s : State,
    decode 0x0000#14 = .ok .nop ∧ decode 0x0020#14 = .ok .nop ∧
    decode 0x0040#14 = .ok .nop ∧ decode 0x0060#14 = .ok .nop ∧
    exec .nop s = .next { s with pc := s.pc + 1#13, cycles := s.cycles + 1 }

/-- BCF and BSF: the byte read, bit `b` cleared or set, the whole byte written back, no flag as a side
effect (R180, R181, R182). -/
def Obligations.BitClearAndSetResults : Prop :=
  ∀ (f : BitVec 7) (b : BitVec 3) (s : State) (a v : Byte), a = ea f s → v = fileValue a s →
    decode (0b0100#4 ++ b ++ f : BitVec 14) = .ok (.bcf f b) ∧
    decode (0b0101#4 ++ b ++ f : BitVec 14) = .ok (.bsf f b) ∧
    (∃ r, exec (.bcf f b) s = .next (fileWrite false a r (readAndAdvance a s)) ∧
      ∀ j, r.getLsbD j = if j = b.toNat then false else v.getLsbD j) ∧
    (∃ r, exec (.bsf f b) s = .next (fileWrite false a r (readAndAdvance a s)) ∧
      ∀ j, j < 8 → r.getLsbD j = if j = b.toNat then true else v.getLsbD j)

/-- BTFSC and BTFSS: the read, and a skip of one word when the bit is 0 or 1; nothing is written (R183,
R184). -/
def Obligations.BitTestResults : Prop :=
  ∀ (f : BitVec 7) (b : BitVec 3) (s : State) (a v : Byte), a = ea f s → v = fileValue a s →
    decode (0b0110#4 ++ b ++ f : BitVec 14) = .ok (.btfsc f b) ∧
    decode (0b0111#4 ++ b ++ f : BitVec 14) = .ok (.btfss f b) ∧
    exec (.btfsc f b) s = .next
      (if v.getLsbD b.toNat then
        { afterRead a s with pc := s.pc + 1#13, cycles := s.cycles + 1 }
      else { afterRead a s with pc := s.pc + 2#13, cycles := s.cycles + 2 }) ∧
    exec (.btfss f b) s = .next
      (if v.getLsbD b.toNat then
        { afterRead a s with pc := s.pc + 2#13, cycles := s.cycles + 2 }
      else { afterRead a s with pc := s.pc + 1#13, cycles := s.cycles + 1 })

/-! ### Literal and control operations -/

/-- ADDLW and SUBLW: W and all three flags, nothing else (R191, R202). -/
def Obligations.AddlwAndSublwResults : Prop :=
  ∀ (x : BitVec 1) (k : Byte) (s : State),
    decode (0b11111#5 ++ x ++ k : BitVec 14) = .ok (.addlw k) ∧
    decode (0b11110#5 ++ x ++ k : BitVec 14) = .ok (.sublw k) ∧
    (∃ t, exec (.addlw k) s = .next t ∧
      t = { s with w := s.w + k, status := t.status, pc := s.pc + 1#13, cycles := s.cycles + 1 } ∧
      t.status.extractLsb' 3 5 = s.status.extractLsb' 3 5 ∧
      t.carry = decide (256 ≤ s.w.toNat + k.toNat) ∧
      t.digitCarry = decide (16 ≤ s.w.toNat % 16 + k.toNat % 16) ∧
      t.zero = decide (s.w + k = 0#8)) ∧
    (∃ t, exec (.sublw k) s = .next t ∧
      t = { s with w := k - s.w, status := t.status, pc := s.pc + 1#13, cycles := s.cycles + 1 } ∧
      t.status.extractLsb' 3 5 = s.status.extractLsb' 3 5 ∧
      t.carry = decide (s.w.toNat ≤ k.toNat) ∧
      t.digitCarry = decide (s.w.toNat % 16 ≤ k.toNat % 16) ∧
      t.zero = decide (k = s.w))

/-- ANDLW, IORLW, XORLW: W and Z, nothing else (R192, R196, R203). -/
def Obligations.LogicLiteralResults : Prop :=
  ∀ (k : Byte) (s : State),
    decode (0b111001#6 ++ k : BitVec 14) = .ok (.andlw k) ∧
    decode (0b111000#6 ++ k : BitVec 14) = .ok (.iorlw k) ∧
    decode (0b111010#6 ++ k : BitVec 14) = .ok (.xorlw k) ∧
    ∀ (i : Instr) (r : Byte),
      (i = .andlw k ∧ r = s.w &&& k) ∨ (i = .iorlw k ∧ r = s.w ||| k) ∨
        (i = .xorlw k ∧ r = s.w ^^^ k) →
      ∃ t, exec i s = .next t ∧
        t = { s with w := r, status := t.status, pc := s.pc + 1#13, cycles := s.cycles + 1 } ∧
        t.zero = decide (r = 0#8) ∧ ∀ j, j ≠ 2 → t.status.getLsbD j = s.status.getLsbD j

/-- MOVLW: W takes the literal, no flag (R197). -/
def Obligations.MovlwLoadsLiteral : Prop :=
  ∀ (x : BitVec 2) (k : Byte) (s : State),
    decode (0b1100#4 ++ x ++ k : BitVec 14) = .ok (.movlw k) ∧
    exec (.movlw k) s = .next { s with w := k, pc := s.pc + 1#13, cycles := s.cycles + 1 }

/-- CALL and GOTO: the target is `PCLATH[4:3] : k`; CALL pushes the address of the word after it, and no
other stack entry changes (R193, R195). -/
def Obligations.CallAndGotoResults : Prop :=
  ∀ (k : BitVec 11) (s : State),
    decode (0b100#3 ++ k : BitVec 14) = .ok (.call k) ∧
    decode (0b101#3 ++ k : BitVec 14) = .ok (.goto k) ∧
    exec (.goto k) s = .next
      { s with pc := (s.pclath.extractLsb' 3 2 ++ k : BitVec 13), cycles := s.cycles + 2 } ∧
    (∃ t, exec (.call k) s = .next t ∧
      t = { s with
        pc := (s.pclath.extractLsb' 3 2 ++ k : BitVec 13)
        stack := t.stack
        sp := s.sp + 1#3
        cycles := s.cycles + 2 } ∧
      t.stackAt s.sp = s.pc + 1#13 ∧ ∀ j, j ≠ s.sp → t.stackAt j = s.stackAt j)

/-- RETURN, RETLW and RETFIE: the program counter takes the popped entry; RETLW also loads W, RETFIE also
sets GIE; nothing else is restored (R198, R199, R200). -/
def Obligations.ReturnResults : Prop :=
  ∀ (x : BitVec 2) (k : Byte) (s : State),
    decode 0x0008#14 = .ok .ret ∧ decode (0b1101#4 ++ x ++ k : BitVec 14) = .ok (.retlw k) ∧
    decode 0x0009#14 = .ok .retfie ∧
    exec .ret s = .next
      { s with pc := s.stackAt (s.sp - 1#3), sp := s.sp - 1#3, cycles := s.cycles + 2 } ∧
    exec (.retlw k) s = .next
      { s with w := k, pc := s.stackAt (s.sp - 1#3), sp := s.sp - 1#3, cycles := s.cycles + 2 } ∧
    exec .retfie s = .next
      { s with
        intcon := s.intcon ||| 0x80#8
        pc := s.stackAt (s.sp - 1#3)
        sp := s.sp - 1#3
        cycles := s.cycles + 2 }

/-- CLRWDT and SLEEP: the watchdog and its prescaler cleared, TO and PD as each says, SLEEP puts the core
to sleep; nothing else (R194, R201). The model's choices here: `wdtMark` takes the cycle count of the
clear (log 9), and SLEEP does all this also when an enabled request already stands, where U9 has a claim
treat TO and PD as any value (log 16). -/
def Obligations.ClrwdtAndSleepResults : Prop :=
  ∀ s : State,
    decode 0x0064#14 = .ok .clrwdt ∧ decode 0x0063#14 = .ok .sleep ∧
    exec .clrwdt s = .next
      { s with
        wdt := 0
        psc := if s.optionReg.getLsbD 3 then 0x00#8 else s.psc
        status := s.status ||| 0b00011000#8
        pc := s.pc + 1#13
        cycles := s.cycles + 1
        wdtMark := s.cycles } ∧
    exec .sleep s = .next
      { s with
        wdt := 0
        psc := if s.optionReg.getLsbD 3 then 0x00#8 else s.psc
        status := (s.status ||| 0b00010000#8) &&& 0b11110111#8
        pc := s.pc + 1#13
        asleep := true
        cycles := s.cycles + 1
        wdtMark := s.cycles }

/-- OPTION and TRIS: the register takes W whatever the bank is; TRIS 7 writes nothing (R220, R221). Of the
TRIS clauses R221 itself says that the pairing of 5 with TRISA and 6 with TRISB is "from general knowledge,
not in source", and that "TRIS 7 writes nothing is the spec's choice" (D14; 90_conflicts.md C13). -/
def Obligations.OptionAndTrisResults : Prop :=
  ∀ s : State,
    decode 0x0062#14 = .ok .option ∧ decode 0x0065#14 = .ok (.tris 5#3) ∧
    decode 0x0066#14 = .ok (.tris 6#3) ∧ decode 0x0067#14 = .ok (.tris 7#3) ∧
    exec .option s = .next
      { s with optionReg := s.w, pc := s.pc + 1#13, cycles := s.cycles + 1 } ∧
    exec (.tris 5#3) s = .next
      { s with trisA := s.w.extractLsb' 0 5, pc := s.pc + 1#13, cycles := s.cycles + 1 } ∧
    exec (.tris 6#3) s = .next
      { s with trisB := s.w, pc := s.pc + 1#13, cycles := s.cycles + 1 } ∧
    exec (.tris 7#3) s = .next { s with pc := s.pc + 1#13, cycles := s.cycles + 1 }

/-- The computed jump `ADDWF PCL,1`: 8 bits are added to the low byte of the next address, the upper five
come from PCLATH, the carry does not reach them; two cycles (R22). -/
def Obligations.ComputedJumpTarget : Prop :=
  ∀ s : State, ∃ t, exec (.addwf .f 0x02#7) s = .next t ∧
    t.pc.extractLsb' 8 5 = s.pclath ∧
    t.pc.extractLsb' 0 8 = s.w + (s.pc + 1#13).extractLsb' 0 8 ∧
    t.cycles = s.cycles + 2 ∧ t.w = s.w ∧ t.pclath = s.pclath ∧ t.ram = s.ram

/-! ### What instructions leave alone -/

/-- PCLATH is changed by no instruction but an explicit write to its own address (R23). -/
def Obligations.OnlyExplicitWritesChangePclath : Prop :=
  (∀ (i : Instr) (s t : State), exec i s = .next t → t.pclath ≠ s.pclath →
    ∃ a, storeAddress i s = some a ∧ (a = 0x0A#8 ∨ a = 0x8A#8)) ∧
  (∀ s : State, (takeInterrupt s).pclath = s.pclath) ∧
  (∀ (v : ProgAddr) (s : State), (push v s).pclath = s.pclath) ∧
  (∀ s : State, (popToPc s).pclath = s.pclath)

/-- An instruction writes only the flags listed for it and leaves every other bit of STATUS unchanged,
unless STATUS is its file destination; TO and PD are written by CLRWDT and SLEEP alone, even then
(R28, R53). -/
def Obligations.InstructionsWriteOnlyTheirFlags : Prop :=
  ∀ (i : Instr) (s t : State), exec i s = .next t →
    (i ≠ .clrwdt → i ≠ .sleep → t.timeOut = s.timeOut ∧ t.powerDown = s.powerDown) ∧
    (storeLoc i s ≠ some .status →
      t.status.extractLsb' 5 3 = s.status.extractLsb' 5 3 ∧
      (affectsZ i = false → t.zero = s.zero) ∧
      (affectsDC i = false → t.digitCarry = s.digitCarry) ∧
      (affectsC i = false → t.carry = s.carry))

/-- Every byte of data memory, data EEPROM and program memory is unchanged but the general purpose
register an instruction stores to; a form that stores to none changes none (R87, R90). -/
def Obligations.InstructionsChangeOnlyTheStoredByte : Prop :=
  ∀ (i : Instr) (s t : State), exec i s = .next t →
    (∀ n, storeLoc i s ≠ some (.gpr n) → t.ram.read n = s.ram.read n) ∧
    (∀ n, t.ee.read n = s.ee.read n) ∧ (∀ n, t.prog.read n = s.prog.read n)

/-- Every register is unchanged but the instruction's destination and the registers its rule names (R87,
R90, R141, R190). That only a write of EECON1 or EECON2 moves `ee_unlock`, and that no instruction moves
the count of the unlock sequence, which the step keeps, are the model's choice (log 12). -/
def Obligations.InstructionsChangeOnlyTheirRegisters : Prop :=
  ∀ (i : Instr) (s t : State), exec i s = .next t →
    (writesW i = false → t.w = s.w) ∧
    (storeLoc i s ≠ some .fsr → t.fsr = s.fsr) ∧
    (storeLoc i s ≠ some .pclath → t.pclath = s.pclath) ∧
    (storeLoc i s ≠ some .intcon → i ≠ .retfie → t.intcon = s.intcon) ∧
    (storeLoc i s ≠ some .optionReg → i ≠ .option → t.optionReg = s.optionReg) ∧
    (storeLoc i s ≠ some .trisA → i ≠ .tris 5#3 → t.trisA = s.trisA) ∧
    (storeLoc i s ≠ some .trisB → i ≠ .tris 6#3 → t.trisB = s.trisB) ∧
    (storeLoc i s ≠ some .portA → t.latA = s.latA) ∧
    (storeLoc i s ≠ some .portB → t.latB = s.latB) ∧
    (storeLoc i s ≠ some .tmr0 →
      t.tmr0 = s.tmr0 ∧ t.t0Inhibit = s.t0Inhibit ∧
      (i ≠ .clrwdt → i ≠ .sleep → t.psc = s.psc)) ∧
    (storeLoc i s ≠ some .eeadr → t.eeadr = s.eeadr) ∧
    (storeLoc i s ≠ some .eedata → storeLoc i s ≠ some .eecon1 → t.eedata = s.eedata) ∧
    (storeLoc i s ≠ some .eecon1 →
      t.eecon1 = s.eecon1 ∧ t.eeAddr = s.eeAddr ∧ t.eeData = s.eeData) ∧
    (storeLoc i s ≠ some .eecon1 → storeLoc i s ≠ some .eecon2 → t.eeUnlock = s.eeUnlock) ∧
    (readLocation i s ≠ some .portB → t.rbLatch = s.rbLatch) ∧
    (readLocation i s ≠ some .portA → readLocation i s ≠ some .portB →
      storeLoc i s ≠ some .eecon1 → t.draws = s.draws) ∧
    ((∀ k, i ≠ .call k) → t.stack = s.stack) ∧
    ((∀ k, i ≠ .call k) → i ≠ .ret → (∀ k, i ≠ .retlw k) → i ≠ .retfie → t.sp = s.sp) ∧
    (i ≠ .clrwdt → i ≠ .sleep → t.wdt = s.wdt ∧ t.wdtMark = s.wdtMark) ∧
    (i ≠ .sleep → t.asleep = s.asleep) ∧
    t.deferIrq = s.deferIrq ∧ t.cfg = s.cfg ∧ t.schedule = s.schedule ∧
    t.eeSequence = s.eeSequence

/-- Every way an instruction can change the program counter, with its whole target (R204): for a write of
PCL `PCLATH[4:0] : value`, the value computed from the low byte of the next address (R22). -/
def Obligations.ProgramCounterTargets : Prop :=
  ∀ (i : Instr) (s t : State), exec i s = .next t → PcTargetAllowed i s t

/-- The ghost cycle counter advances by the cycle counts (R298). -/
def Obligations.InstructionCycleCounts : Prop :=
  ∀ (i : Instr) (s t : State), exec i s = .next t → t.cycles = s.cycles + cyclesOf i s t

/-! ### The stack, interrupts and sleep -/

/-- Eight pushed values are popped in reverse order, and a ninth push overwrites the oldest; a push and a
pop leave the pointer where it was (R24). -/
def Obligations.StackIsACircularBufferOfEight : Prop :=
  ∀ (s : State) (v : Vector ProgAddr 8) (x : ProgAddr) (t : State), t = pushAll v.toList s →
    t.sp = s.sp ∧
    (∀ j (h : j < 8), t.stackAt (t.sp - 1#3 - BitVec.ofNat 3 j) = v[7 - j]) ∧
    (push x t).stackAt t.sp = x ∧ t.stackAt t.sp = v[0] ∧
    (∀ j, j ≠ t.sp → (push x t).stackAt j = t.stackAt j) ∧
    (popToPc (push x s)).pc = x ∧ (popToPc (push x s)).sp = s.sp

/-- Interrupt entry saves the program counter on the stack, clears GIE, goes to 0004h, and changes nothing
else; RETFIE after it comes back with GIE set (R240, R241). -/
def Obligations.InterruptEntryAndReturn : Prop :=
  ∀ s t : State, t = takeInterrupt s →
    t = { s with
      pc := 0x0004#13
      stack := t.stack
      sp := s.sp + 1#3
      intcon := s.intcon &&& 0x7F#8
      cycles := s.cycles + 2 } ∧
    t.stackAt s.sp = s.pc ∧ (∀ j, j ≠ s.sp → t.stackAt j = s.stackAt j) ∧
    (∃ u, exec .retfie t = .next u ∧ u.pc = s.pc ∧ u.sp = s.sp ∧ u.gie = true ∧
      u.w = s.w ∧ u.status = s.status ∧ u.pclath = s.pclath)

/-- After the agents have acted, an awake core has an interrupt due exactly when GIE = 1, an enabled flag
is set, and no deferral is in force; the step is then the interrupt entry (R235, R238, R256). The
model's choices here: that the two cycles of the entry pass for Timer0 after it is log 21, and that it
breaks the unlock sequence is log 12. -/
def Obligations.InterruptIsTakenWhenEnabledAndRequested : Prop :=
  ∀ (s₀ s : State), s = runAgents s₀ → s.asleep = false →
    (interruptDue s = true ↔
      s.intcon.getLsbD 7 = true ∧ s.deferIrq = false ∧
      ((s.intcon.getLsbD 5 = true ∧ s.intcon.getLsbD 2 = true) ∨
        (s.intcon.getLsbD 4 = true ∧ s.intcon.getLsbD 1 = true) ∨
        (s.intcon.getLsbD 3 = true ∧ s.intcon.getLsbD 0 = true) ∨
        (s.intcon.getLsbD 6 = true ∧ s.eecon1.getLsbD 4 = true))) ∧
    (interruptDue s = true →
      step s₀ = .next { passCycles 2 (takeInterrupt s) with eeSequence := 0#3 })

/-- After RETFIE with a request still pending the next step enters the interrupt again, with the popped
address on the stack, before the instruction there executes (R242). -/
def Obligations.RetfieWithPendingRequestReenters : Prop :=
  ∀ s t : State, s.asleep = false → s.schedule = [] → s.gie = false → irq s = true →
    decode (fetch s) = .ok .retfie → step s = .next t →
    t.pc = s.tos ∧ ∃ u, step t = .next u ∧ u.pc = 0x0004#13 ∧ u.tos = s.tos ∧ u.gie = false

/-- A sleeping core for which no wake-up event is possible sleeps for ever and executes nothing (R256, R301):
a step leaves it in such a sleep, with the program counter, W, the stack, the register file and every other
field as they are but what the agents of a sleep change. The watchdog and its prescaler may count (R249,
R247), INTF and RBIF may be set (R253, R254), and a data EEPROM write in progress may complete (R261); with
no agent step to come nothing changes. The schedule and its first list as the boundary are the model's
choice, log 4. -/
def Obligations.PermanentSleepExecutesNothing : Prop :=
  ∀ s : State, PermanentSleep s → ∃ t, step s = .next t ∧ PermanentSleep t ∧
    t = { s with
      wdt := t.wdt, psc := t.psc, intcon := t.intcon, ee := t.ee, eecon1 := t.eecon1
      schedule := s.schedule.tail } ∧
    (∀ j, 2 ≤ j → t.intcon.getLsbD j = s.intcon.getLsbD j) ∧
    (s.intf = true → t.intf = true) ∧ (s.rbif = true → t.rbif = true) ∧
    (s.cfg.wdtEnabled = false → t.wdt = s.wdt ∧ t.psc = s.psc) ∧
    (s.psa = false → t.psc = s.psc) ∧
    (s.wr = false → t.ee = s.ee ∧ t.eecon1 = s.eecon1) ∧
    (t.ee = s.ee ∧ t.eecon1 = s.eecon1 ∨
      t.ee = s.ee.write s.eeAddr.toNat s.eeData ∧
        t.eecon1 = (s.eecon1 &&& 0b11101#5) ||| 0b10000#5) ∧
    ((∀ es ∈ s.schedule, es = []) → t = { s with schedule := s.schedule.tail })

/-- An enabled request other than TMR0's ends the sleep whatever GIE is, and nothing else does but a reset or
a watchdog time-out (R256). In a boundary without those two a sleeping core is awake at the end exactly when
such a request stands, the interrupt deferred if GIE = 1, with the program counter, W, STATUS (TO, PD) and
GIE untouched. Then, from every sleep that the agents so end, the instruction at `pc` runs first, and if
GIE = 1 and a request still stands at the step that follows, that step is the interrupt entry. The model's
choices here: the schedule and its boundaries are log 4, that the wake-up and the first instruction are one
step is log 24, that a request already standing when SLEEP executes wakes at the next step as any other
is log 16 (U9), that the cycles of an instruction and of an entry pass after their effects is log 21, and
the count of the unlock sequence is log 12. -/
def Obligations.WakeUpRunsOneInstructionBeforeInterrupt : Prop :=
  (∀ s₀ s : State, s = runAgents s₀ → s₀.asleep = true →
    AgentStep.mclr ∉ s₀.schedule.headD [] →
    (s₀.cfg.wdtEnabled = true → AgentStep.wdtTimeout ∉ s₀.schedule.headD []) →
    s.asleep = !wakeRequest s ∧ (s.asleep = false → s.deferIrq = s.gie) ∧
    s.pc = s₀.pc ∧ s.w = s₀.w ∧ s.status = s₀.status ∧ s.gie = s₀.gie) ∧
  (∀ (s₀ s t : State) (i : Instr), s = runAgents s₀ → s₀.asleep = true → s.asleep = false →
    s.deferIrq = s.gie → decode (fetch s) = .ok i → exec i (countSequence i s) = .next t →
    ∃ u, step s₀ = .next u ∧
      u = { passCycles (t.cycles - s.cycles) t with deferIrq := false } ∧
      (∀ v, v = runAgents u → u.asleep = false → v.gie = true → irq v = true →
        step u = .next { passCycles 2 (takeInterrupt v) with eeSequence := 0#3 }))

/-- The idle loop is left as it is, under either policy of Timer0, and stays an idle loop: a step only lets
two cycles pass (R301, R298) and ends a deferral (R256). The model's choices here: the schedule, of
which only empty boundaries are left, is log 4, the holding of the count after a write of TMR0, which under
`cycle` runs out, is log 21, and the unlock sequence is broken by log 12. -/
def Obligations.IdleLoopStaysIdle : Prop :=
  ∀ s : State, IdleLoop s → ∃ t, step s = .next t ∧ IdleLoop t ∧
    t = { s with
      cycles := s.cycles + 2
      deferIrq := false
      schedule := s.schedule.tail
      eeSequence := 0#3
      t0Inhibit :=
        match s.cfg.tmr0Policy with
        | .draw => s.t0Inhibit
        | .cycle => if s.t0Inhibit = 3#2 then 1#2 else 0#2 }

/-! ### The environment -/

/-- What each agent step does, field by field; nothing else changes (R234, R244 to R250, R253, R254, R256,
R261); and which are taken: before a core step those of its boundary, one after another in their order,
and the rest of the schedule stays (R12, R238, R244), a sleeping core waking as soon as an enabled source
other than TMR0 requests (R256); if it sleeps still, the step is these agent steps alone. Timer0 counts under `draw` whenever the core is awake, and under `cycle` on the edge of RA4/T0CKI
that T0SE selects, in counter mode, through the prescaler if PSA = 0; T0IF is set when TMR0 leaves FFh.
INTF is set on the edge INTEDG selects, RBIF when a pin among RB7..RB4 that is an input differs from its
latched level. No agent step clears a flag or changes an enable bit, and none counts TMR0 in a sleep.
The model's choices here: the schedule, its order, and a boundary as its first list are log 4, waking
within the boundary is log 24, the separate counts of the prescaler and the watchdog are log 20, holding the
edge count after a write of TMR0 and the prescaler's modulus are log 21, that a PORTB change carries
levels is log 23, and `wdtMark` is log 9. The two resets have statements of their own. -/
def Obligations.AgentStepsChangeOnlyTheirState : Prop :=
  ∀ s : State,
    (s.cfg.tmr0Policy = .draw → s.asleep = false →
      agentStep .tmr0Tick s = { s with
        tmr0 := s.tmr0 + 1#8
        intcon := if s.tmr0 = 0xFF#8 then s.intcon ||| 0x04#8 else s.intcon }) ∧
    (s.cfg.tmr0Policy = .cycle ∨ s.asleep = true → agentStep .tmr0Tick s = s) ∧
    (∀ rising : Bool, s.cfg.tmr0Policy = .cycle → s.asleep = false → s.optionReg.getLsbD 5 = true →
      rising = !s.optionReg.getLsbD 4 → s.t0Inhibit = 0#2 →
      (s.optionReg.getLsbD 3 = true → agentStep (.t0ckiEdge rising) s = { s with
        tmr0 := s.tmr0 + 1#8
        intcon := if s.tmr0 = 0xFF#8 then s.intcon ||| 0x04#8 else s.intcon }) ∧
      (s.optionReg.getLsbD 3 = false → (s.psc + 1#8).toNat % 2 ^ (s.ps + 1) = 0 →
        agentStep (.t0ckiEdge rising) s = { s with
          psc := s.psc + 1#8
          tmr0 := s.tmr0 + 1#8
          intcon := if s.tmr0 = 0xFF#8 then s.intcon ||| 0x04#8 else s.intcon }) ∧
      (s.optionReg.getLsbD 3 = false → (s.psc + 1#8).toNat % 2 ^ (s.ps + 1) ≠ 0 →
        agentStep (.t0ckiEdge rising) s = { s with psc := s.psc + 1#8 })) ∧
    (∀ rising : Bool, s.cfg.tmr0Policy = .draw ∨ s.asleep = true ∨ s.optionReg.getLsbD 5 = false ∨
      rising = s.optionReg.getLsbD 4 ∨ s.t0Inhibit ≠ 0#2 → agentStep (.t0ckiEdge rising) s = s) ∧
    (agentStep .prescalerTick s =
      if (s.optionReg.getLsbD 3 = true ∧ s.cfg.wdtEnabled = true) ∨
          (s.optionReg.getLsbD 3 = false ∧ s.cfg.tmr0Policy = .draw ∧ s.asleep = false) then
        { s with psc := s.psc + 1#8 }
      else s) ∧
    (agentStep .wdtTick s = if s.cfg.wdtEnabled = true then { s with wdt := s.wdt + 1 } else s) ∧
    (s.asleep = true → agentStep .wdtTimeout s =
      if s.cfg.wdtEnabled = true then
        { s with status := s.status &&& 0xEF#8, asleep := false, wdt := 0, wdtMark := s.cycles }
      else s) ∧
    (∀ rising : Bool, agentStep (.intEdge rising) s =
      if rising = s.optionReg.getLsbD 6 then { s with intcon := s.intcon ||| 0x02#8 } else s) ∧
    (∀ levels : BitVec 4,
      ((∃ j, j < 4 ∧ s.trisB.getLsbD (4 + j) = true ∧ levels.getLsbD j ≠ s.rbLatch.getLsbD j) →
        agentStep (.portBChange levels) s = { s with intcon := s.intcon ||| 0x01#8 }) ∧
      ((∀ j, j < 4 → s.trisB.getLsbD (4 + j) = true → levels.getLsbD j = s.rbLatch.getLsbD j) →
        agentStep (.portBChange levels) s = s)) ∧
    (agentStep .eeWriteDone s =
      if s.eecon1.getLsbD 1 = true then
        { s with
          ee := s.ee.write s.eeAddr.toNat s.eeData
          eecon1 := (s.eecon1 &&& 0b11101#5) ||| 0b10000#5 }
      else s) ∧
    (∀ (e : AgentStep) (t : State), e ≠ .mclr → (e = .wdtTimeout → s.asleep = true) →
      t = agentStep e s →
      t.intcon.extractLsb' 3 5 = s.intcon.extractLsb' 3 5 ∧
      (s.t0if = true → t.t0if = true) ∧ (s.intf = true → t.intf = true) ∧
      (s.rbif = true → t.rbif = true) ∧ (s.eeif = true → t.eeif = true) ∧
      (s.asleep = true → t.tmr0 = s.tmr0)) ∧
    (wakeIfDue s =
      if s.asleep = true ∧
          ((s.intcon.getLsbD 4 = true ∧ s.intcon.getLsbD 1 = true) ∨
            (s.intcon.getLsbD 3 = true ∧ s.intcon.getLsbD 0 = true) ∨
            (s.intcon.getLsbD 6 = true ∧ s.eecon1.getLsbD 4 = true)) then
        { s with asleep := false, deferIrq := s.intcon.getLsbD 7 }
      else s) ∧
    (s.schedule = [] → runAgents s = wakeIfDue s) ∧
    (∀ (es : List AgentStep) (rest : List (List AgentStep)), s.schedule = es :: rest →
      runAgents s =
        wakeIfDue (es.foldl (fun t e => agentStep e (wakeIfDue t)) { s with schedule := rest }) ∧
      (runAgents s).schedule = rest) ∧
    (∀ (e : AgentStep) (rest : List (List AgentStep)), s.schedule = [e] :: rest →
      s.asleep = false → runAgents s = wakeIfDue (agentStep e { s with schedule := rest })) ∧
    ((runAgents s).asleep = true → step s = .next (runAgents s))

/-- A MCLR reset (R281, R283): what it sets and what it keeps. That it breaks the unlock sequence is the
model's own (log 12). -/
def Obligations.MclrResetValues : Prop :=
  ∀ s t : State, t = agentStep .mclr s →
    t.pc = 0x0000#13 ∧ t.pclath = 0#5 ∧ t.status = s.status &&& 0b00011111#8 ∧
    t.intcon = s.intcon &&& 0b00000001#8 ∧ t.optionReg = 0xFF#8 ∧ t.trisA = 0x1F#5 ∧
    t.trisB = 0xFF#8 ∧ t.eeif = false ∧ t.wren = false ∧ t.wr = false ∧ t.rd = false ∧
    t.wrerr = (s.wr || s.wrerr) ∧ t.sp = 0#3 ∧ t.wdt = 0 ∧ t.psc = 0x00#8 ∧
    t.asleep = false ∧ t.deferIrq = false ∧ t.eeUnlock = 0#2 ∧ t.eeSequence = 0#3 ∧
    t.w = s.w ∧ t.ram = s.ram ∧ t.latA = s.latA ∧ t.latB = s.latB ∧ t.tmr0 = s.tmr0 ∧
    t.fsr = s.fsr ∧ t.eedata = s.eedata ∧ t.eeadr = s.eeadr ∧ t.prog = s.prog ∧
    (∀ n, (s.wr = true → n ≠ s.eeAddr.toNat) → t.ee.read n = s.ee.read n)

/-- A watchdog time-out, if the watchdog is enabled: a reset with TO = 0 and PD = 1 when the core is
awake, a wake-up that changes TO and the watchdog counter only when it is asleep (R250, R282). -/
def Obligations.WatchdogTimeoutResetsOrWakes : Prop :=
  (∀ s t : State, s.cfg.wdtEnabled = true → s.asleep = false → t = agentStep .wdtTimeout s →
    t = { mclrReset s with status := t.status } ∧
    t.status = (s.status &&& 0b00000111#8) ||| 0b00001000#8) ∧
  (∀ s t : State, s.cfg.wdtEnabled = true → s.asleep = true → t = agentStep .wdtTimeout s →
    t = { s with
      status := s.status &&& 0b11101111#8
      asleep := false
      wdt := 0
      wdtMark := t.wdtMark }) ∧
  (∀ s : State, s.cfg.wdtEnabled = false → agentStep .wdtTimeout s = s)

/-- Under the premise that the watchdog needs at least `m` cycles, no watchdog reset comes before them:
the agents leave the program counter, W and the general purpose registers alone (R249). -/
def Obligations.NoWatchdogResetBeforeMinimumCycles : Prop :=
  ∀ (m : Nat) (s : State), WatchdogPremise m s → s.asleep = false → s.cycles < s.wdtMark + m →
    AgentStep.mclr ∉ s.schedule.headD [] →
    (runAgents s).pc = s.pc ∧ (runAgents s).w = s.w ∧ (runAgents s).ram = s.ram ∧
    (runAgents s).timeOut = s.timeOut ∧ (runAgents s).asleep = false

/-- The passing of `n` instruction cycles, which is how a core step counts Timer0. It changes Timer0 only:
TMR0, T0IF, which it can set and not clear, the prescaler, and the holding of the count. Under `draw` it
changes nothing. Under `cycle` it counts nothing in counter mode or asleep (R246, R256); in timer mode TMR0
counts every cycle with the prescaler unassigned, and once per 2^(PS+1) cycles with it, from any value of
the prescaler, and T0IF is set when TMR0 passes FFh (R246, R248). The model's choices here are log 21: a
write of TMR0 holds the count over the writing cycle and the two that follow, it goes on at the fourth, the
holding runs out also in counter mode, nothing counts while it lasts, and the prescaler's modulus. -/
def Obligations.Timer0CountsInstructionCycles : Prop :=
  (∀ (n : Nat) (s : State), s.cfg.tmr0Policy = .draw → passCycles n s = s) ∧
  (∀ (n : Nat) (s t : State), t = passCycles n s →
    t = { s with tmr0 := t.tmr0, intcon := t.intcon, psc := t.psc, t0Inhibit := t.t0Inhibit } ∧
    (t.intcon = s.intcon ∨ t.intcon = s.intcon ||| 0x04#8)) ∧
  (∀ (n : Nat) (s : State), s.cfg.tmr0Policy = .cycle → s.asleep = true ∨ s.t0cs = true →
    passCycles n s = { s with t0Inhibit := BitVec.ofNat 2 (s.t0Inhibit.toNat - n) }) ∧
  (∀ (n : Nat) (s : State), s.cfg.tmr0Policy = .cycle → n ≤ s.t0Inhibit.toNat →
    passCycles n s = { s with t0Inhibit := BitVec.ofNat 2 (s.t0Inhibit.toNat - n) }) ∧
  (∀ (n : Nat) (s : State), s.cfg.tmr0Policy = .cycle → s.asleep = false → s.t0cs = false →
    s.t0Inhibit = 0#2 → s.psa = true →
    (passCycles n s).tmr0 = s.tmr0 + BitVec.ofNat 8 n ∧
    (passCycles n s).t0if = (s.t0if || decide (256 ≤ s.tmr0.toNat + n)) ∧
    (passCycles n s).psc = s.psc ∧ (passCycles n s).t0Inhibit = 0#2) ∧
  (∀ (n m : Nat) (s : State), s.cfg.tmr0Policy = .cycle → s.asleep = false → s.t0cs = false →
    s.t0Inhibit = 0#2 → s.psa = false →
    m = (s.psc.toNat % 2 ^ (s.ps + 1) + n) / 2 ^ (s.ps + 1) →
    (passCycles n s).tmr0 = s.tmr0 + BitVec.ofNat 8 m ∧
    (passCycles n s).t0if = (s.t0if || decide (256 ≤ s.tmr0.toNat + m)) ∧
    (passCycles n s).psc = s.psc + BitVec.ofNat 8 n ∧ (passCycles n s).t0Inhibit = 0#2) ∧
  (∀ (v : Byte) (s : State), s.cfg.tmr0Policy = .cycle → s.asleep = false → s.t0cs = false →
    s.psa = true →
    (passCycles 3 (writeTmr0 v s)).tmr0 = v ∧ (passCycles 4 (writeTmr0 v s)).tmr0 = v + 1#8)

/-- A data EEPROM read: BSF EECON1,0 in Bank 1 puts the addressed byte in EEDATA within the same
instruction and clears RD again (R258, R259). -/
def Obligations.EepromReadLoadsEedata : Prop :=
  ∀ s : State, s.rp0 = true → s.rd = false →
    exec (.bsf 0x08#7 0#3) s = .next
      { s with
        eedata := s.ee.read (s.eeadr.extractLsb' 0 6).toNat
        pc := s.pc + 1#13
        cycles := s.cycles + 1 }

/-- A write to EECON1: EEIF, WRERR and WREN take the written bits, WR cannot be cleared, RD reads 0 again
with the addressed byte in EEDATA; setting WR without WREN does not set it, setting it as the last step
of the unlock sequence with WREN starts the write, and setting it with WREN otherwise either starts the
write or does not. A write to EECON2 moves `ee_unlock` only (R258, R259, R260). The model's choices
here: that WREN is the value just written is log 13, what becomes of WR and `ee_unlock` outside the
sequence is log 10, the count of the sequence is log 12, and that any other byte written to EECON2
clears `ee_unlock` is log 11. -/
def Obligations.EepromControlWrites : Prop :=
  (∀ (affects : Bool) (v : Byte) (s t : State), s.rd = false → fileWrite affects 0x88#8 v s = t →
    t = { s with
      eecon1 := t.eecon1, eedata := t.eedata, eeUnlock := t.eeUnlock, eeAddr := t.eeAddr,
      eeData := t.eeData, draws := t.draws } ∧
    t.eeif = v.getLsbD 4 ∧ t.wrerr = v.getLsbD 3 ∧ t.wren = v.getLsbD 2 ∧ t.rd = false ∧
    t.eedata = (if v.getLsbD 0 then s.ee.read (s.eeadr.extractLsb' 0 6).toNat else s.eedata) ∧
    (s.wr = true ∨ v.getLsbD 1 = false →
      t.wr = s.wr ∧ t.eeUnlock = s.eeUnlock ∧ t.eeAddr = s.eeAddr ∧ t.eeData = s.eeData) ∧
    (s.wr = false → v.getLsbD 1 = true → v.getLsbD 2 = false →
      t.wr = false ∧ t.eeUnlock = s.eeUnlock ∧ t.eeAddr = s.eeAddr ∧ t.eeData = s.eeData) ∧
    (s.wr = false → v.getLsbD 1 = true → v.getLsbD 2 = true →
      s.eeUnlock = 2#2 → s.eeSequence = 5#3 →
      t.wr = true ∧ t.eeUnlock = 0#2 ∧ t.eeAddr = s.eeadr.extractLsb' 0 6 ∧
      t.eeData = t.eedata) ∧
    (s.wr = false → v.getLsbD 1 = true → v.getLsbD 2 = true →
      s.eeUnlock ≠ 2#2 ∨ s.eeSequence ≠ 5#3 →
      (t.wr = true ∧ t.eeUnlock = 0#2 ∧ t.eeAddr = s.eeadr.extractLsb' 0 6 ∧
        t.eeData = t.eedata) ∨
      (t.wr = false ∧ t.eeUnlock = s.eeUnlock ∧ t.eeAddr = s.eeAddr ∧ t.eeData = s.eeData))) ∧
  (∀ (affects : Bool) (v : Byte) (s t : State), fileWrite affects 0x89#8 v s = t →
    t = { s with eeUnlock := t.eeUnlock } ∧ (v = 0x55#8 → t.eeUnlock = 1#2) ∧
    (v = 0xAA#8 → s.eeUnlock = 1#2 → t.eeUnlock = 2#2) ∧
    (v ≠ 0x55#8 → (v = 0xAA#8 → s.eeUnlock ≠ 1#2) → t.eeUnlock = 0#2))

/-- The five instructions of the unlock sequence, run one after another with no interrupt between them,
start a data EEPROM write that captures EEADR and EEDATA, if WREN = 1; without WREN, WR is not set and
nothing starts (R258, R260). The count of the sequence that the run keeps is the model's own (log 12). -/
def Obligations.EepromUnlockSequenceStartsWrite : Prop :=
  ∀ s : State, s.rp0 = true → s.rd = false → s.wr = false →
    ∃ t, execList [.movlw 0x55#8, .movwf 0x09#7, .movlw 0xAA#8, .movwf 0x09#7, .bsf 0x08#7 1#3] s
        = .next t ∧
      t.w = 0xAA#8 ∧ t.eedata = s.eedata ∧ t.eeadr = s.eeadr ∧ t.ee = s.ee ∧
      (s.wren = true →
        t.wr = true ∧ t.eeUnlock = 0#2 ∧ t.eeAddr = s.eeadr.extractLsb' 0 6 ∧
        t.eeData = s.eedata) ∧
      (s.wren = false →
        t.wr = false ∧ t.eeAddr = s.eeAddr ∧ t.eeData = s.eeData)

/-- The completion of a data EEPROM write stores the captured byte at the captured address, clears WR,
sets EEIF, and changes no other byte; with no write in progress it does nothing (R261). -/
def Obligations.EepromWriteCompletes : Prop :=
  (∀ s t : State, s.ee.wf = true → s.wr = true → t = agentStep .eeWriteDone s →
    t.ee.read s.eeAddr.toNat = s.eeData ∧ (∀ n, n ≠ s.eeAddr.toNat → t.ee.read n = s.ee.read n) ∧
    t.wr = false ∧ t.eeif = true ∧ t.wren = s.wren ∧ t.wrerr = s.wrerr ∧
    t = { s with ee := t.ee, eecon1 := t.eecon1 }) ∧
  (∀ s : State, s.wr = false → agentStep .eeWriteDone s = s)
end

