-- ==== Sys2Proof/Laws/Bits.lean ====
section
/-! SUPPORT. The bits of a register after one of them is written. -/

namespace Sys2Proof.Machine

/-- Bit `j` after bit `i` is written. -/
theorem getLsbD_putBit {n : Nat} (v : BitVec n) (i j : Nat) (b : Bool) :
    (putBit v i b).getLsbD j = if i = j ∧ i < n then b else v.getLsbD j := by
  have hv : n ≤ j → v.getLsbD j = false := BitVec.getLsbD_of_ge v j
  unfold putBit
  cases b
  · simp only [Bool.false_eq_true, if_false, BitVec.getLsbD_and, BitVec.getLsbD_not,
      BitVec.getLsbD_twoPow]
    by_cases hij : i = j <;> by_cases hj : j < n <;> simp_all
  · simp only [if_true, BitVec.getLsbD_or, BitVec.getLsbD_twoPow]
    by_cases hij : i = j <;> by_cases hj : j < n <;> simp_all

end Sys2Proof.Machine
end

