-- ==== Sys2Proof/Laws/Memory.lean ====
section
/-! SUPPORT. Reading after writing, and the canonical form, for every memory. -/

namespace Sys2Proof.Machine

/-- The cell at address `a` is the one in front when `a` is its address. -/
@[simp] theorem Memory.read_consCell_same {n : Nat} (a : Nat) (v : BitVec n) (m : Memory n)
    (h : Memory.read m a = Memory.unlisted n) :
    Memory.read (Memory.consCell a v m) a = v := by
  unfold Memory.consCell
  split <;> simp_all [Memory.read]

/-- A cell in front does not change the reading of another address. -/
theorem Memory.read_consCell_other {n : Nat} {a b : Nat} (v : BitVec n) (m : Memory n) (h : b ≠ a) :
    Memory.read (Memory.consCell a v m) b = Memory.read m b := by
  unfold Memory.consCell
  split
  · rfl
  · simp [Memory.read, Ne.symm h]

/-- An address below every listed one is not listed. -/
theorem Memory.read_below {n : Nat} (m : Memory n) (a : Nat)
    (h : m.all (fun c => decide (a < c.1)) = true) : Memory.read m a = Memory.unlisted n := by
  induction m with
  | nil => rfl
  | cons c rest ih =>
    obtain ⟨k, v⟩ := c
    simp only [List.all_cons, Bool.and_eq_true, decide_eq_true_eq] at h
    simp [Memory.read, Nat.ne_of_gt h.1, ih h.2]

/-- The head of a canonical memory lies below its rest. -/
theorem Memory.wf_cons {n : Nat} {k : Nat} {u : BitVec n} {rest : Memory n}
    (h : Memory.wf ((k, u) :: rest) = true) :
    u ≠ Memory.unlisted n ∧ rest.all (fun c => decide (k < c.1)) = true ∧
      Memory.wf rest = true := by
  simpa [Memory.wf, and_assoc] using h

/-- Reading the address just written gives the value written. -/
theorem Memory.read_write_same {n : Nat} (m : Memory n) (a : Nat) (v : BitVec n)
    (h : Memory.wf m = true) : Memory.read (Memory.write m a v) a = v := by
  induction m with
  | nil => exact Memory.read_consCell_same a v [] rfl
  | cons c rest ih =>
    obtain ⟨k, u⟩ := c
    obtain ⟨-, hlow, hrest⟩ := Memory.wf_cons h
    unfold Memory.write
    split
    · rename_i hak
      refine Memory.read_consCell_same a v _ (Memory.read_below _ a ?_)
      simp only [List.all_cons, hak, decide_true, Bool.true_and, List.all_eq_true,
        decide_eq_true_eq] at hlow ⊢
      exact fun x hx => lt_trans hak (hlow x hx)
    · split
      · rename_i hk
        exact Memory.read_consCell_same a v _ (hk ▸ Memory.read_below rest k hlow)
      · rename_i hk
        simp [Memory.read, Ne.symm hk, ih hrest]

/-- A write leaves every other address alone. -/
theorem Memory.read_write_other {n : Nat} (m : Memory n) {a b : Nat} (v : BitVec n) (h : b ≠ a) :
    Memory.read (Memory.write m a v) b = Memory.read m b := by
  induction m with
  | nil => simp [Memory.write, Memory.read_consCell_other _ _ h]
  | cons c rest ih =>
    obtain ⟨k, u⟩ := c
    unfold Memory.write
    split
    · exact Memory.read_consCell_other v _ h
    · split
      · rename_i hk
        subst hk
        rw [Memory.read_consCell_other v _ h]
        simp [Memory.read, Ne.symm h]
      · simp [Memory.read, ih]

/-- The addresses listed after a write are the written one and those listed before. -/
theorem Memory.mem_write {n : Nat} (m : Memory n) (a : Nat) (v : BitVec n) (c : Nat × BitVec n)
    (h : c ∈ Memory.write m a v) : c.1 = a ∨ c ∈ m := by
  induction m with
  | nil =>
    simp only [Memory.write, Memory.consCell] at h
    split at h <;> simp_all
  | cons d rest ih =>
    obtain ⟨k, u⟩ := d
    simp only [Memory.write, Memory.consCell] at h
    split at h
    · split at h <;> simp_all
      rcases h with h | h | h <;> simp_all
    · split at h
      · split at h <;> simp_all
        rcases h with h | h <;> simp_all
      · rcases List.mem_cons.1 h with h | h
        · exact .inr (by simp [h])
        · rcases ih h with h | h
          · exact .inl h
          · exact .inr (List.mem_cons_of_mem _ h)

/-- A write keeps a memory inside its address space. -/
theorem Memory.within_write {n : Nat} (m : Memory n) (a : Nat) (v : BitVec n) {lo hi : Nat}
    (h : Memory.within m lo hi = true) (hlo : lo ≤ a) (hhi : a < hi) :
    Memory.within (Memory.write m a v) lo hi = true := by
  simp only [Memory.within, List.all_eq_true, Bool.and_eq_true, decide_eq_true_eq] at h ⊢
  intro c hc
  rcases Memory.mem_write m a v c hc with hca | hm
  · exact hca ▸ ⟨hlo, hhi⟩
  · exact h c hm

/-- A cell in front of a canonical memory that lies above it keeps the canonical form. -/
theorem Memory.wf_consCell {n : Nat} (a : Nat) (v : BitVec n) (m : Memory n)
    (hm : Memory.wf m = true) (hlow : m.all (fun c => decide (a < c.1)) = true) :
    Memory.wf (Memory.consCell a v m) = true := by
  unfold Memory.consCell
  split
  · exact hm
  · rename_i hv
    simp only [Memory.wf, bne_iff_ne, Bool.and_eq_true]
    exact ⟨⟨hv, hlow⟩, hm⟩

/-- A write keeps the canonical form. -/
theorem Memory.wf_write {n : Nat} (m : Memory n) (a : Nat) (v : BitVec n)
    (h : Memory.wf m = true) : Memory.wf (Memory.write m a v) = true := by
  induction m with
  | nil => exact Memory.wf_consCell a v [] rfl rfl
  | cons c rest ih =>
    obtain ⟨k, u⟩ := c
    obtain ⟨hu, hlow, hrest⟩ := Memory.wf_cons h
    unfold Memory.write
    split
    · rename_i hak
      refine Memory.wf_consCell a v _ h ?_
      simp only [List.all_cons, hak, decide_true, Bool.true_and, List.all_eq_true,
        decide_eq_true_eq] at hlow ⊢
      exact fun x hx => lt_trans hak (hlow x hx)
    · split
      · rename_i hk
        exact Memory.wf_consCell a v rest hrest (hk ▸ hlow)
      · rename_i hlt hk
        have hka : k < a := by omega
        have hall : (Memory.write rest a v).all (fun c => decide (k < c.1)) = true := by
          simp only [List.all_eq_true, decide_eq_true_eq] at hlow ⊢
          intro c hc
          rcases Memory.mem_write rest a v c hc with hca | hm
          · omega
          · exact hlow c hm
        simp [Memory.wf, hu, hall, ih hrest]

end Sys2Proof.Machine
end

