-- ==== Sys2Proof/Laws/State.lean ====
section
/-! SUPPORT. One lemma per field per named update of State, each true by rfl. -/

namespace Sys2Proof.Machine

/-! ### advance -/

@[simp] theorem advance_w (s : State) : (advance s).w = s.w := rfl
@[simp] theorem advance_pc (s : State) : (advance s).pc = s.pc + 1#13 := rfl
@[simp] theorem advance_pclath (s : State) : (advance s).pclath = s.pclath := rfl
@[simp] theorem advance_stack (s : State) : (advance s).stack = s.stack := rfl
@[simp] theorem advance_sp (s : State) : (advance s).sp = s.sp := rfl
@[simp] theorem advance_tmr0 (s : State) : (advance s).tmr0 = s.tmr0 := rfl
@[simp] theorem advance_status (s : State) : (advance s).status = s.status := rfl
@[simp] theorem advance_fsr (s : State) : (advance s).fsr = s.fsr := rfl
@[simp] theorem advance_latA (s : State) : (advance s).latA = s.latA := rfl
@[simp] theorem advance_latB (s : State) : (advance s).latB = s.latB := rfl
@[simp] theorem advance_trisA (s : State) : (advance s).trisA = s.trisA := rfl
@[simp] theorem advance_trisB (s : State) : (advance s).trisB = s.trisB := rfl
@[simp] theorem advance_optionReg (s : State) : (advance s).optionReg = s.optionReg := rfl
@[simp] theorem advance_intcon (s : State) : (advance s).intcon = s.intcon := rfl
@[simp] theorem advance_eedata (s : State) : (advance s).eedata = s.eedata := rfl
@[simp] theorem advance_eeadr (s : State) : (advance s).eeadr = s.eeadr := rfl
@[simp] theorem advance_eecon1 (s : State) : (advance s).eecon1 = s.eecon1 := rfl
@[simp] theorem advance_ram (s : State) : (advance s).ram = s.ram := rfl
@[simp] theorem advance_ee (s : State) : (advance s).ee = s.ee := rfl
@[simp] theorem advance_prog (s : State) : (advance s).prog = s.prog := rfl
@[simp] theorem advance_wdt (s : State) : (advance s).wdt = s.wdt := rfl
@[simp] theorem advance_psc (s : State) : (advance s).psc = s.psc := rfl
@[simp] theorem advance_asleep (s : State) : (advance s).asleep = s.asleep := rfl
@[simp] theorem advance_deferIrq (s : State) : (advance s).deferIrq = s.deferIrq := rfl
@[simp] theorem advance_eeUnlock (s : State) : (advance s).eeUnlock = s.eeUnlock := rfl
@[simp] theorem advance_eeAddr (s : State) : (advance s).eeAddr = s.eeAddr := rfl
@[simp] theorem advance_eeData (s : State) : (advance s).eeData = s.eeData := rfl
@[simp] theorem advance_rbLatch (s : State) : (advance s).rbLatch = s.rbLatch := rfl
@[simp] theorem advance_cfg (s : State) : (advance s).cfg = s.cfg := rfl
@[simp] theorem advance_t0Inhibit (s : State) : (advance s).t0Inhibit = s.t0Inhibit := rfl
@[simp] theorem advance_cycles (s : State) : (advance s).cycles = s.cycles + 1 := rfl
@[simp] theorem advance_wdtMark (s : State) : (advance s).wdtMark = s.wdtMark := rfl
@[simp] theorem advance_eeSequence (s : State) : (advance s).eeSequence = s.eeSequence := rfl
@[simp] theorem advance_draws (s : State) : (advance s).draws = s.draws := rfl
@[simp] theorem advance_schedule (s : State) : (advance s).schedule = s.schedule := rfl

/-! ### skipNext -/

@[simp] theorem skipNext_w (s : State) : (skipNext s).w = s.w := rfl
@[simp] theorem skipNext_pc (s : State) : (skipNext s).pc = s.pc + 2#13 := rfl
@[simp] theorem skipNext_pclath (s : State) : (skipNext s).pclath = s.pclath := rfl
@[simp] theorem skipNext_stack (s : State) : (skipNext s).stack = s.stack := rfl
@[simp] theorem skipNext_sp (s : State) : (skipNext s).sp = s.sp := rfl
@[simp] theorem skipNext_tmr0 (s : State) : (skipNext s).tmr0 = s.tmr0 := rfl
@[simp] theorem skipNext_status (s : State) : (skipNext s).status = s.status := rfl
@[simp] theorem skipNext_fsr (s : State) : (skipNext s).fsr = s.fsr := rfl
@[simp] theorem skipNext_latA (s : State) : (skipNext s).latA = s.latA := rfl
@[simp] theorem skipNext_latB (s : State) : (skipNext s).latB = s.latB := rfl
@[simp] theorem skipNext_trisA (s : State) : (skipNext s).trisA = s.trisA := rfl
@[simp] theorem skipNext_trisB (s : State) : (skipNext s).trisB = s.trisB := rfl
@[simp] theorem skipNext_optionReg (s : State) : (skipNext s).optionReg = s.optionReg := rfl
@[simp] theorem skipNext_intcon (s : State) : (skipNext s).intcon = s.intcon := rfl
@[simp] theorem skipNext_eedata (s : State) : (skipNext s).eedata = s.eedata := rfl
@[simp] theorem skipNext_eeadr (s : State) : (skipNext s).eeadr = s.eeadr := rfl
@[simp] theorem skipNext_eecon1 (s : State) : (skipNext s).eecon1 = s.eecon1 := rfl
@[simp] theorem skipNext_ram (s : State) : (skipNext s).ram = s.ram := rfl
@[simp] theorem skipNext_ee (s : State) : (skipNext s).ee = s.ee := rfl
@[simp] theorem skipNext_prog (s : State) : (skipNext s).prog = s.prog := rfl
@[simp] theorem skipNext_wdt (s : State) : (skipNext s).wdt = s.wdt := rfl
@[simp] theorem skipNext_psc (s : State) : (skipNext s).psc = s.psc := rfl
@[simp] theorem skipNext_asleep (s : State) : (skipNext s).asleep = s.asleep := rfl
@[simp] theorem skipNext_deferIrq (s : State) : (skipNext s).deferIrq = s.deferIrq := rfl
@[simp] theorem skipNext_eeUnlock (s : State) : (skipNext s).eeUnlock = s.eeUnlock := rfl
@[simp] theorem skipNext_eeAddr (s : State) : (skipNext s).eeAddr = s.eeAddr := rfl
@[simp] theorem skipNext_eeData (s : State) : (skipNext s).eeData = s.eeData := rfl
@[simp] theorem skipNext_rbLatch (s : State) : (skipNext s).rbLatch = s.rbLatch := rfl
@[simp] theorem skipNext_cfg (s : State) : (skipNext s).cfg = s.cfg := rfl
@[simp] theorem skipNext_t0Inhibit (s : State) : (skipNext s).t0Inhibit = s.t0Inhibit := rfl
@[simp] theorem skipNext_cycles (s : State) : (skipNext s).cycles = s.cycles + 2 := rfl
@[simp] theorem skipNext_wdtMark (s : State) : (skipNext s).wdtMark = s.wdtMark := rfl
@[simp] theorem skipNext_eeSequence (s : State) : (skipNext s).eeSequence = s.eeSequence := rfl
@[simp] theorem skipNext_draws (s : State) : (skipNext s).draws = s.draws := rfl
@[simp] theorem skipNext_schedule (s : State) : (skipNext s).schedule = s.schedule := rfl

/-! ### branchTo -/

@[simp] theorem branchTo_w (p : ProgAddr) (s : State) : (branchTo p s).w = s.w := rfl
@[simp] theorem branchTo_pc (p : ProgAddr) (s : State) : (branchTo p s).pc = p := rfl
@[simp] theorem branchTo_pclath (p : ProgAddr) (s : State) : (branchTo p s).pclath = s.pclath := rfl
@[simp] theorem branchTo_stack (p : ProgAddr) (s : State) : (branchTo p s).stack = s.stack := rfl
@[simp] theorem branchTo_sp (p : ProgAddr) (s : State) : (branchTo p s).sp = s.sp := rfl
@[simp] theorem branchTo_tmr0 (p : ProgAddr) (s : State) : (branchTo p s).tmr0 = s.tmr0 := rfl
@[simp] theorem branchTo_status (p : ProgAddr) (s : State) : (branchTo p s).status = s.status := rfl
@[simp] theorem branchTo_fsr (p : ProgAddr) (s : State) : (branchTo p s).fsr = s.fsr := rfl
@[simp] theorem branchTo_latA (p : ProgAddr) (s : State) : (branchTo p s).latA = s.latA := rfl
@[simp] theorem branchTo_latB (p : ProgAddr) (s : State) : (branchTo p s).latB = s.latB := rfl
@[simp] theorem branchTo_trisA (p : ProgAddr) (s : State) : (branchTo p s).trisA = s.trisA := rfl
@[simp] theorem branchTo_trisB (p : ProgAddr) (s : State) : (branchTo p s).trisB = s.trisB := rfl
@[simp] theorem branchTo_optionReg (p : ProgAddr) (s : State) : (branchTo p s).optionReg = s.optionReg := rfl
@[simp] theorem branchTo_intcon (p : ProgAddr) (s : State) : (branchTo p s).intcon = s.intcon := rfl
@[simp] theorem branchTo_eedata (p : ProgAddr) (s : State) : (branchTo p s).eedata = s.eedata := rfl
@[simp] theorem branchTo_eeadr (p : ProgAddr) (s : State) : (branchTo p s).eeadr = s.eeadr := rfl
@[simp] theorem branchTo_eecon1 (p : ProgAddr) (s : State) : (branchTo p s).eecon1 = s.eecon1 := rfl
@[simp] theorem branchTo_ram (p : ProgAddr) (s : State) : (branchTo p s).ram = s.ram := rfl
@[simp] theorem branchTo_ee (p : ProgAddr) (s : State) : (branchTo p s).ee = s.ee := rfl
@[simp] theorem branchTo_prog (p : ProgAddr) (s : State) : (branchTo p s).prog = s.prog := rfl
@[simp] theorem branchTo_wdt (p : ProgAddr) (s : State) : (branchTo p s).wdt = s.wdt := rfl
@[simp] theorem branchTo_psc (p : ProgAddr) (s : State) : (branchTo p s).psc = s.psc := rfl
@[simp] theorem branchTo_asleep (p : ProgAddr) (s : State) : (branchTo p s).asleep = s.asleep := rfl
@[simp] theorem branchTo_deferIrq (p : ProgAddr) (s : State) : (branchTo p s).deferIrq = s.deferIrq := rfl
@[simp] theorem branchTo_eeUnlock (p : ProgAddr) (s : State) : (branchTo p s).eeUnlock = s.eeUnlock := rfl
@[simp] theorem branchTo_eeAddr (p : ProgAddr) (s : State) : (branchTo p s).eeAddr = s.eeAddr := rfl
@[simp] theorem branchTo_eeData (p : ProgAddr) (s : State) : (branchTo p s).eeData = s.eeData := rfl
@[simp] theorem branchTo_rbLatch (p : ProgAddr) (s : State) : (branchTo p s).rbLatch = s.rbLatch := rfl
@[simp] theorem branchTo_cfg (p : ProgAddr) (s : State) : (branchTo p s).cfg = s.cfg := rfl
@[simp] theorem branchTo_t0Inhibit (p : ProgAddr) (s : State) : (branchTo p s).t0Inhibit = s.t0Inhibit := rfl
@[simp] theorem branchTo_cycles (p : ProgAddr) (s : State) : (branchTo p s).cycles = s.cycles + 2 := rfl
@[simp] theorem branchTo_wdtMark (p : ProgAddr) (s : State) : (branchTo p s).wdtMark = s.wdtMark := rfl
@[simp] theorem branchTo_eeSequence (p : ProgAddr) (s : State) : (branchTo p s).eeSequence = s.eeSequence := rfl
@[simp] theorem branchTo_draws (p : ProgAddr) (s : State) : (branchTo p s).draws = s.draws := rfl
@[simp] theorem branchTo_schedule (p : ProgAddr) (s : State) : (branchTo p s).schedule = s.schedule := rfl

/-! ### writePcl -/

@[simp] theorem writePcl_w (v : Byte) (s : State) : (writePcl v s).w = s.w := rfl
@[simp] theorem writePcl_pc (v : Byte) (s : State) : (writePcl v s).pc = (s.pclath ++ v : BitVec 13) := rfl
@[simp] theorem writePcl_pclath (v : Byte) (s : State) : (writePcl v s).pclath = s.pclath := rfl
@[simp] theorem writePcl_stack (v : Byte) (s : State) : (writePcl v s).stack = s.stack := rfl
@[simp] theorem writePcl_sp (v : Byte) (s : State) : (writePcl v s).sp = s.sp := rfl
@[simp] theorem writePcl_tmr0 (v : Byte) (s : State) : (writePcl v s).tmr0 = s.tmr0 := rfl
@[simp] theorem writePcl_status (v : Byte) (s : State) : (writePcl v s).status = s.status := rfl
@[simp] theorem writePcl_fsr (v : Byte) (s : State) : (writePcl v s).fsr = s.fsr := rfl
@[simp] theorem writePcl_latA (v : Byte) (s : State) : (writePcl v s).latA = s.latA := rfl
@[simp] theorem writePcl_latB (v : Byte) (s : State) : (writePcl v s).latB = s.latB := rfl
@[simp] theorem writePcl_trisA (v : Byte) (s : State) : (writePcl v s).trisA = s.trisA := rfl
@[simp] theorem writePcl_trisB (v : Byte) (s : State) : (writePcl v s).trisB = s.trisB := rfl
@[simp] theorem writePcl_optionReg (v : Byte) (s : State) : (writePcl v s).optionReg = s.optionReg := rfl
@[simp] theorem writePcl_intcon (v : Byte) (s : State) : (writePcl v s).intcon = s.intcon := rfl
@[simp] theorem writePcl_eedata (v : Byte) (s : State) : (writePcl v s).eedata = s.eedata := rfl
@[simp] theorem writePcl_eeadr (v : Byte) (s : State) : (writePcl v s).eeadr = s.eeadr := rfl
@[simp] theorem writePcl_eecon1 (v : Byte) (s : State) : (writePcl v s).eecon1 = s.eecon1 := rfl
@[simp] theorem writePcl_ram (v : Byte) (s : State) : (writePcl v s).ram = s.ram := rfl
@[simp] theorem writePcl_ee (v : Byte) (s : State) : (writePcl v s).ee = s.ee := rfl
@[simp] theorem writePcl_prog (v : Byte) (s : State) : (writePcl v s).prog = s.prog := rfl
@[simp] theorem writePcl_wdt (v : Byte) (s : State) : (writePcl v s).wdt = s.wdt := rfl
@[simp] theorem writePcl_psc (v : Byte) (s : State) : (writePcl v s).psc = s.psc := rfl
@[simp] theorem writePcl_asleep (v : Byte) (s : State) : (writePcl v s).asleep = s.asleep := rfl
@[simp] theorem writePcl_deferIrq (v : Byte) (s : State) : (writePcl v s).deferIrq = s.deferIrq := rfl
@[simp] theorem writePcl_eeUnlock (v : Byte) (s : State) : (writePcl v s).eeUnlock = s.eeUnlock := rfl
@[simp] theorem writePcl_eeAddr (v : Byte) (s : State) : (writePcl v s).eeAddr = s.eeAddr := rfl
@[simp] theorem writePcl_eeData (v : Byte) (s : State) : (writePcl v s).eeData = s.eeData := rfl
@[simp] theorem writePcl_rbLatch (v : Byte) (s : State) : (writePcl v s).rbLatch = s.rbLatch := rfl
@[simp] theorem writePcl_cfg (v : Byte) (s : State) : (writePcl v s).cfg = s.cfg := rfl
@[simp] theorem writePcl_t0Inhibit (v : Byte) (s : State) : (writePcl v s).t0Inhibit = s.t0Inhibit := rfl
@[simp] theorem writePcl_cycles (v : Byte) (s : State) : (writePcl v s).cycles = s.cycles + 1 := rfl
@[simp] theorem writePcl_wdtMark (v : Byte) (s : State) : (writePcl v s).wdtMark = s.wdtMark := rfl
@[simp] theorem writePcl_eeSequence (v : Byte) (s : State) : (writePcl v s).eeSequence = s.eeSequence := rfl
@[simp] theorem writePcl_draws (v : Byte) (s : State) : (writePcl v s).draws = s.draws := rfl
@[simp] theorem writePcl_schedule (v : Byte) (s : State) : (writePcl v s).schedule = s.schedule := rfl

/-! ### push -/

@[simp] theorem push_w (v : ProgAddr) (s : State) : (push v s).w = s.w := rfl
@[simp] theorem push_pc (v : ProgAddr) (s : State) : (push v s).pc = s.pc := rfl
@[simp] theorem push_pclath (v : ProgAddr) (s : State) : (push v s).pclath = s.pclath := rfl
@[simp] theorem push_stack (v : ProgAddr) (s : State) : (push v s).stack = s.stack.set s.sp.toNat v := rfl
@[simp] theorem push_sp (v : ProgAddr) (s : State) : (push v s).sp = s.sp + 1#3 := rfl
@[simp] theorem push_tmr0 (v : ProgAddr) (s : State) : (push v s).tmr0 = s.tmr0 := rfl
@[simp] theorem push_status (v : ProgAddr) (s : State) : (push v s).status = s.status := rfl
@[simp] theorem push_fsr (v : ProgAddr) (s : State) : (push v s).fsr = s.fsr := rfl
@[simp] theorem push_latA (v : ProgAddr) (s : State) : (push v s).latA = s.latA := rfl
@[simp] theorem push_latB (v : ProgAddr) (s : State) : (push v s).latB = s.latB := rfl
@[simp] theorem push_trisA (v : ProgAddr) (s : State) : (push v s).trisA = s.trisA := rfl
@[simp] theorem push_trisB (v : ProgAddr) (s : State) : (push v s).trisB = s.trisB := rfl
@[simp] theorem push_optionReg (v : ProgAddr) (s : State) : (push v s).optionReg = s.optionReg := rfl
@[simp] theorem push_intcon (v : ProgAddr) (s : State) : (push v s).intcon = s.intcon := rfl
@[simp] theorem push_eedata (v : ProgAddr) (s : State) : (push v s).eedata = s.eedata := rfl
@[simp] theorem push_eeadr (v : ProgAddr) (s : State) : (push v s).eeadr = s.eeadr := rfl
@[simp] theorem push_eecon1 (v : ProgAddr) (s : State) : (push v s).eecon1 = s.eecon1 := rfl
@[simp] theorem push_ram (v : ProgAddr) (s : State) : (push v s).ram = s.ram := rfl
@[simp] theorem push_ee (v : ProgAddr) (s : State) : (push v s).ee = s.ee := rfl
@[simp] theorem push_prog (v : ProgAddr) (s : State) : (push v s).prog = s.prog := rfl
@[simp] theorem push_wdt (v : ProgAddr) (s : State) : (push v s).wdt = s.wdt := rfl
@[simp] theorem push_psc (v : ProgAddr) (s : State) : (push v s).psc = s.psc := rfl
@[simp] theorem push_asleep (v : ProgAddr) (s : State) : (push v s).asleep = s.asleep := rfl
@[simp] theorem push_deferIrq (v : ProgAddr) (s : State) : (push v s).deferIrq = s.deferIrq := rfl
@[simp] theorem push_eeUnlock (v : ProgAddr) (s : State) : (push v s).eeUnlock = s.eeUnlock := rfl
@[simp] theorem push_eeAddr (v : ProgAddr) (s : State) : (push v s).eeAddr = s.eeAddr := rfl
@[simp] theorem push_eeData (v : ProgAddr) (s : State) : (push v s).eeData = s.eeData := rfl
@[simp] theorem push_rbLatch (v : ProgAddr) (s : State) : (push v s).rbLatch = s.rbLatch := rfl
@[simp] theorem push_cfg (v : ProgAddr) (s : State) : (push v s).cfg = s.cfg := rfl
@[simp] theorem push_t0Inhibit (v : ProgAddr) (s : State) : (push v s).t0Inhibit = s.t0Inhibit := rfl
@[simp] theorem push_cycles (v : ProgAddr) (s : State) : (push v s).cycles = s.cycles := rfl
@[simp] theorem push_wdtMark (v : ProgAddr) (s : State) : (push v s).wdtMark = s.wdtMark := rfl
@[simp] theorem push_eeSequence (v : ProgAddr) (s : State) : (push v s).eeSequence = s.eeSequence := rfl
@[simp] theorem push_draws (v : ProgAddr) (s : State) : (push v s).draws = s.draws := rfl
@[simp] theorem push_schedule (v : ProgAddr) (s : State) : (push v s).schedule = s.schedule := rfl

/-! ### popToPc -/

@[simp] theorem popToPc_w (s : State) : (popToPc s).w = s.w := rfl
@[simp] theorem popToPc_pc (s : State) : (popToPc s).pc = s.tos := rfl
@[simp] theorem popToPc_pclath (s : State) : (popToPc s).pclath = s.pclath := rfl
@[simp] theorem popToPc_stack (s : State) : (popToPc s).stack = s.stack := rfl
@[simp] theorem popToPc_sp (s : State) : (popToPc s).sp = s.sp - 1#3 := rfl
@[simp] theorem popToPc_tmr0 (s : State) : (popToPc s).tmr0 = s.tmr0 := rfl
@[simp] theorem popToPc_status (s : State) : (popToPc s).status = s.status := rfl
@[simp] theorem popToPc_fsr (s : State) : (popToPc s).fsr = s.fsr := rfl
@[simp] theorem popToPc_latA (s : State) : (popToPc s).latA = s.latA := rfl
@[simp] theorem popToPc_latB (s : State) : (popToPc s).latB = s.latB := rfl
@[simp] theorem popToPc_trisA (s : State) : (popToPc s).trisA = s.trisA := rfl
@[simp] theorem popToPc_trisB (s : State) : (popToPc s).trisB = s.trisB := rfl
@[simp] theorem popToPc_optionReg (s : State) : (popToPc s).optionReg = s.optionReg := rfl
@[simp] theorem popToPc_intcon (s : State) : (popToPc s).intcon = s.intcon := rfl
@[simp] theorem popToPc_eedata (s : State) : (popToPc s).eedata = s.eedata := rfl
@[simp] theorem popToPc_eeadr (s : State) : (popToPc s).eeadr = s.eeadr := rfl
@[simp] theorem popToPc_eecon1 (s : State) : (popToPc s).eecon1 = s.eecon1 := rfl
@[simp] theorem popToPc_ram (s : State) : (popToPc s).ram = s.ram := rfl
@[simp] theorem popToPc_ee (s : State) : (popToPc s).ee = s.ee := rfl
@[simp] theorem popToPc_prog (s : State) : (popToPc s).prog = s.prog := rfl
@[simp] theorem popToPc_wdt (s : State) : (popToPc s).wdt = s.wdt := rfl
@[simp] theorem popToPc_psc (s : State) : (popToPc s).psc = s.psc := rfl
@[simp] theorem popToPc_asleep (s : State) : (popToPc s).asleep = s.asleep := rfl
@[simp] theorem popToPc_deferIrq (s : State) : (popToPc s).deferIrq = s.deferIrq := rfl
@[simp] theorem popToPc_eeUnlock (s : State) : (popToPc s).eeUnlock = s.eeUnlock := rfl
@[simp] theorem popToPc_eeAddr (s : State) : (popToPc s).eeAddr = s.eeAddr := rfl
@[simp] theorem popToPc_eeData (s : State) : (popToPc s).eeData = s.eeData := rfl
@[simp] theorem popToPc_rbLatch (s : State) : (popToPc s).rbLatch = s.rbLatch := rfl
@[simp] theorem popToPc_cfg (s : State) : (popToPc s).cfg = s.cfg := rfl
@[simp] theorem popToPc_t0Inhibit (s : State) : (popToPc s).t0Inhibit = s.t0Inhibit := rfl
@[simp] theorem popToPc_cycles (s : State) : (popToPc s).cycles = s.cycles + 2 := rfl
@[simp] theorem popToPc_wdtMark (s : State) : (popToPc s).wdtMark = s.wdtMark := rfl
@[simp] theorem popToPc_eeSequence (s : State) : (popToPc s).eeSequence = s.eeSequence := rfl
@[simp] theorem popToPc_draws (s : State) : (popToPc s).draws = s.draws := rfl
@[simp] theorem popToPc_schedule (s : State) : (popToPc s).schedule = s.schedule := rfl

/-! ### putIntcon -/

@[simp] theorem putIntcon_w (i : Nat) (b : Bool) (s : State) : (s.putIntcon i b).w = s.w := rfl
@[simp] theorem putIntcon_pc (i : Nat) (b : Bool) (s : State) : (s.putIntcon i b).pc = s.pc := rfl
@[simp] theorem putIntcon_pclath (i : Nat) (b : Bool) (s : State) : (s.putIntcon i b).pclath = s.pclath := rfl
@[simp] theorem putIntcon_stack (i : Nat) (b : Bool) (s : State) : (s.putIntcon i b).stack = s.stack := rfl
@[simp] theorem putIntcon_sp (i : Nat) (b : Bool) (s : State) : (s.putIntcon i b).sp = s.sp := rfl
@[simp] theorem putIntcon_tmr0 (i : Nat) (b : Bool) (s : State) : (s.putIntcon i b).tmr0 = s.tmr0 := rfl
@[simp] theorem putIntcon_status (i : Nat) (b : Bool) (s : State) : (s.putIntcon i b).status = s.status := rfl
@[simp] theorem putIntcon_fsr (i : Nat) (b : Bool) (s : State) : (s.putIntcon i b).fsr = s.fsr := rfl
@[simp] theorem putIntcon_latA (i : Nat) (b : Bool) (s : State) : (s.putIntcon i b).latA = s.latA := rfl
@[simp] theorem putIntcon_latB (i : Nat) (b : Bool) (s : State) : (s.putIntcon i b).latB = s.latB := rfl
@[simp] theorem putIntcon_trisA (i : Nat) (b : Bool) (s : State) : (s.putIntcon i b).trisA = s.trisA := rfl
@[simp] theorem putIntcon_trisB (i : Nat) (b : Bool) (s : State) : (s.putIntcon i b).trisB = s.trisB := rfl
@[simp] theorem putIntcon_optionReg (i : Nat) (b : Bool) (s : State) : (s.putIntcon i b).optionReg = s.optionReg := rfl
@[simp] theorem putIntcon_intcon (i : Nat) (b : Bool) (s : State) : (s.putIntcon i b).intcon = putBit s.intcon i b := rfl
@[simp] theorem putIntcon_eedata (i : Nat) (b : Bool) (s : State) : (s.putIntcon i b).eedata = s.eedata := rfl
@[simp] theorem putIntcon_eeadr (i : Nat) (b : Bool) (s : State) : (s.putIntcon i b).eeadr = s.eeadr := rfl
@[simp] theorem putIntcon_eecon1 (i : Nat) (b : Bool) (s : State) : (s.putIntcon i b).eecon1 = s.eecon1 := rfl
@[simp] theorem putIntcon_ram (i : Nat) (b : Bool) (s : State) : (s.putIntcon i b).ram = s.ram := rfl
@[simp] theorem putIntcon_ee (i : Nat) (b : Bool) (s : State) : (s.putIntcon i b).ee = s.ee := rfl
@[simp] theorem putIntcon_prog (i : Nat) (b : Bool) (s : State) : (s.putIntcon i b).prog = s.prog := rfl
@[simp] theorem putIntcon_wdt (i : Nat) (b : Bool) (s : State) : (s.putIntcon i b).wdt = s.wdt := rfl
@[simp] theorem putIntcon_psc (i : Nat) (b : Bool) (s : State) : (s.putIntcon i b).psc = s.psc := rfl
@[simp] theorem putIntcon_asleep (i : Nat) (b : Bool) (s : State) : (s.putIntcon i b).asleep = s.asleep := rfl
@[simp] theorem putIntcon_deferIrq (i : Nat) (b : Bool) (s : State) : (s.putIntcon i b).deferIrq = s.deferIrq := rfl
@[simp] theorem putIntcon_eeUnlock (i : Nat) (b : Bool) (s : State) : (s.putIntcon i b).eeUnlock = s.eeUnlock := rfl
@[simp] theorem putIntcon_eeAddr (i : Nat) (b : Bool) (s : State) : (s.putIntcon i b).eeAddr = s.eeAddr := rfl
@[simp] theorem putIntcon_eeData (i : Nat) (b : Bool) (s : State) : (s.putIntcon i b).eeData = s.eeData := rfl
@[simp] theorem putIntcon_rbLatch (i : Nat) (b : Bool) (s : State) : (s.putIntcon i b).rbLatch = s.rbLatch := rfl
@[simp] theorem putIntcon_cfg (i : Nat) (b : Bool) (s : State) : (s.putIntcon i b).cfg = s.cfg := rfl
@[simp] theorem putIntcon_t0Inhibit (i : Nat) (b : Bool) (s : State) : (s.putIntcon i b).t0Inhibit = s.t0Inhibit := rfl
@[simp] theorem putIntcon_cycles (i : Nat) (b : Bool) (s : State) : (s.putIntcon i b).cycles = s.cycles := rfl
@[simp] theorem putIntcon_wdtMark (i : Nat) (b : Bool) (s : State) : (s.putIntcon i b).wdtMark = s.wdtMark := rfl
@[simp] theorem putIntcon_eeSequence (i : Nat) (b : Bool) (s : State) : (s.putIntcon i b).eeSequence = s.eeSequence := rfl
@[simp] theorem putIntcon_draws (i : Nat) (b : Bool) (s : State) : (s.putIntcon i b).draws = s.draws := rfl
@[simp] theorem putIntcon_schedule (i : Nat) (b : Bool) (s : State) : (s.putIntcon i b).schedule = s.schedule := rfl

/-! ### putStatus -/

@[simp] theorem putStatus_w (i : Nat) (b : Bool) (s : State) : (s.putStatus i b).w = s.w := rfl
@[simp] theorem putStatus_pc (i : Nat) (b : Bool) (s : State) : (s.putStatus i b).pc = s.pc := rfl
@[simp] theorem putStatus_pclath (i : Nat) (b : Bool) (s : State) : (s.putStatus i b).pclath = s.pclath := rfl
@[simp] theorem putStatus_stack (i : Nat) (b : Bool) (s : State) : (s.putStatus i b).stack = s.stack := rfl
@[simp] theorem putStatus_sp (i : Nat) (b : Bool) (s : State) : (s.putStatus i b).sp = s.sp := rfl
@[simp] theorem putStatus_tmr0 (i : Nat) (b : Bool) (s : State) : (s.putStatus i b).tmr0 = s.tmr0 := rfl
@[simp] theorem putStatus_status (i : Nat) (b : Bool) (s : State) : (s.putStatus i b).status = putBit s.status i b := rfl
@[simp] theorem putStatus_fsr (i : Nat) (b : Bool) (s : State) : (s.putStatus i b).fsr = s.fsr := rfl
@[simp] theorem putStatus_latA (i : Nat) (b : Bool) (s : State) : (s.putStatus i b).latA = s.latA := rfl
@[simp] theorem putStatus_latB (i : Nat) (b : Bool) (s : State) : (s.putStatus i b).latB = s.latB := rfl
@[simp] theorem putStatus_trisA (i : Nat) (b : Bool) (s : State) : (s.putStatus i b).trisA = s.trisA := rfl
@[simp] theorem putStatus_trisB (i : Nat) (b : Bool) (s : State) : (s.putStatus i b).trisB = s.trisB := rfl
@[simp] theorem putStatus_optionReg (i : Nat) (b : Bool) (s : State) : (s.putStatus i b).optionReg = s.optionReg := rfl
@[simp] theorem putStatus_intcon (i : Nat) (b : Bool) (s : State) : (s.putStatus i b).intcon = s.intcon := rfl
@[simp] theorem putStatus_eedata (i : Nat) (b : Bool) (s : State) : (s.putStatus i b).eedata = s.eedata := rfl
@[simp] theorem putStatus_eeadr (i : Nat) (b : Bool) (s : State) : (s.putStatus i b).eeadr = s.eeadr := rfl
@[simp] theorem putStatus_eecon1 (i : Nat) (b : Bool) (s : State) : (s.putStatus i b).eecon1 = s.eecon1 := rfl
@[simp] theorem putStatus_ram (i : Nat) (b : Bool) (s : State) : (s.putStatus i b).ram = s.ram := rfl
@[simp] theorem putStatus_ee (i : Nat) (b : Bool) (s : State) : (s.putStatus i b).ee = s.ee := rfl
@[simp] theorem putStatus_prog (i : Nat) (b : Bool) (s : State) : (s.putStatus i b).prog = s.prog := rfl
@[simp] theorem putStatus_wdt (i : Nat) (b : Bool) (s : State) : (s.putStatus i b).wdt = s.wdt := rfl
@[simp] theorem putStatus_psc (i : Nat) (b : Bool) (s : State) : (s.putStatus i b).psc = s.psc := rfl
@[simp] theorem putStatus_asleep (i : Nat) (b : Bool) (s : State) : (s.putStatus i b).asleep = s.asleep := rfl
@[simp] theorem putStatus_deferIrq (i : Nat) (b : Bool) (s : State) : (s.putStatus i b).deferIrq = s.deferIrq := rfl
@[simp] theorem putStatus_eeUnlock (i : Nat) (b : Bool) (s : State) : (s.putStatus i b).eeUnlock = s.eeUnlock := rfl
@[simp] theorem putStatus_eeAddr (i : Nat) (b : Bool) (s : State) : (s.putStatus i b).eeAddr = s.eeAddr := rfl
@[simp] theorem putStatus_eeData (i : Nat) (b : Bool) (s : State) : (s.putStatus i b).eeData = s.eeData := rfl
@[simp] theorem putStatus_rbLatch (i : Nat) (b : Bool) (s : State) : (s.putStatus i b).rbLatch = s.rbLatch := rfl
@[simp] theorem putStatus_cfg (i : Nat) (b : Bool) (s : State) : (s.putStatus i b).cfg = s.cfg := rfl
@[simp] theorem putStatus_t0Inhibit (i : Nat) (b : Bool) (s : State) : (s.putStatus i b).t0Inhibit = s.t0Inhibit := rfl
@[simp] theorem putStatus_cycles (i : Nat) (b : Bool) (s : State) : (s.putStatus i b).cycles = s.cycles := rfl
@[simp] theorem putStatus_wdtMark (i : Nat) (b : Bool) (s : State) : (s.putStatus i b).wdtMark = s.wdtMark := rfl
@[simp] theorem putStatus_eeSequence (i : Nat) (b : Bool) (s : State) : (s.putStatus i b).eeSequence = s.eeSequence := rfl
@[simp] theorem putStatus_draws (i : Nat) (b : Bool) (s : State) : (s.putStatus i b).draws = s.draws := rfl
@[simp] theorem putStatus_schedule (i : Nat) (b : Bool) (s : State) : (s.putStatus i b).schedule = s.schedule := rfl

/-! ### putEecon1 -/

@[simp] theorem putEecon1_w (i : Nat) (b : Bool) (s : State) : (s.putEecon1 i b).w = s.w := rfl
@[simp] theorem putEecon1_pc (i : Nat) (b : Bool) (s : State) : (s.putEecon1 i b).pc = s.pc := rfl
@[simp] theorem putEecon1_pclath (i : Nat) (b : Bool) (s : State) : (s.putEecon1 i b).pclath = s.pclath := rfl
@[simp] theorem putEecon1_stack (i : Nat) (b : Bool) (s : State) : (s.putEecon1 i b).stack = s.stack := rfl
@[simp] theorem putEecon1_sp (i : Nat) (b : Bool) (s : State) : (s.putEecon1 i b).sp = s.sp := rfl
@[simp] theorem putEecon1_tmr0 (i : Nat) (b : Bool) (s : State) : (s.putEecon1 i b).tmr0 = s.tmr0 := rfl
@[simp] theorem putEecon1_status (i : Nat) (b : Bool) (s : State) : (s.putEecon1 i b).status = s.status := rfl
@[simp] theorem putEecon1_fsr (i : Nat) (b : Bool) (s : State) : (s.putEecon1 i b).fsr = s.fsr := rfl
@[simp] theorem putEecon1_latA (i : Nat) (b : Bool) (s : State) : (s.putEecon1 i b).latA = s.latA := rfl
@[simp] theorem putEecon1_latB (i : Nat) (b : Bool) (s : State) : (s.putEecon1 i b).latB = s.latB := rfl
@[simp] theorem putEecon1_trisA (i : Nat) (b : Bool) (s : State) : (s.putEecon1 i b).trisA = s.trisA := rfl
@[simp] theorem putEecon1_trisB (i : Nat) (b : Bool) (s : State) : (s.putEecon1 i b).trisB = s.trisB := rfl
@[simp] theorem putEecon1_optionReg (i : Nat) (b : Bool) (s : State) : (s.putEecon1 i b).optionReg = s.optionReg := rfl
@[simp] theorem putEecon1_intcon (i : Nat) (b : Bool) (s : State) : (s.putEecon1 i b).intcon = s.intcon := rfl
@[simp] theorem putEecon1_eedata (i : Nat) (b : Bool) (s : State) : (s.putEecon1 i b).eedata = s.eedata := rfl
@[simp] theorem putEecon1_eeadr (i : Nat) (b : Bool) (s : State) : (s.putEecon1 i b).eeadr = s.eeadr := rfl
@[simp] theorem putEecon1_eecon1 (i : Nat) (b : Bool) (s : State) : (s.putEecon1 i b).eecon1 = putBit s.eecon1 i b := rfl
@[simp] theorem putEecon1_ram (i : Nat) (b : Bool) (s : State) : (s.putEecon1 i b).ram = s.ram := rfl
@[simp] theorem putEecon1_ee (i : Nat) (b : Bool) (s : State) : (s.putEecon1 i b).ee = s.ee := rfl
@[simp] theorem putEecon1_prog (i : Nat) (b : Bool) (s : State) : (s.putEecon1 i b).prog = s.prog := rfl
@[simp] theorem putEecon1_wdt (i : Nat) (b : Bool) (s : State) : (s.putEecon1 i b).wdt = s.wdt := rfl
@[simp] theorem putEecon1_psc (i : Nat) (b : Bool) (s : State) : (s.putEecon1 i b).psc = s.psc := rfl
@[simp] theorem putEecon1_asleep (i : Nat) (b : Bool) (s : State) : (s.putEecon1 i b).asleep = s.asleep := rfl
@[simp] theorem putEecon1_deferIrq (i : Nat) (b : Bool) (s : State) : (s.putEecon1 i b).deferIrq = s.deferIrq := rfl
@[simp] theorem putEecon1_eeUnlock (i : Nat) (b : Bool) (s : State) : (s.putEecon1 i b).eeUnlock = s.eeUnlock := rfl
@[simp] theorem putEecon1_eeAddr (i : Nat) (b : Bool) (s : State) : (s.putEecon1 i b).eeAddr = s.eeAddr := rfl
@[simp] theorem putEecon1_eeData (i : Nat) (b : Bool) (s : State) : (s.putEecon1 i b).eeData = s.eeData := rfl
@[simp] theorem putEecon1_rbLatch (i : Nat) (b : Bool) (s : State) : (s.putEecon1 i b).rbLatch = s.rbLatch := rfl
@[simp] theorem putEecon1_cfg (i : Nat) (b : Bool) (s : State) : (s.putEecon1 i b).cfg = s.cfg := rfl
@[simp] theorem putEecon1_t0Inhibit (i : Nat) (b : Bool) (s : State) : (s.putEecon1 i b).t0Inhibit = s.t0Inhibit := rfl
@[simp] theorem putEecon1_cycles (i : Nat) (b : Bool) (s : State) : (s.putEecon1 i b).cycles = s.cycles := rfl
@[simp] theorem putEecon1_wdtMark (i : Nat) (b : Bool) (s : State) : (s.putEecon1 i b).wdtMark = s.wdtMark := rfl
@[simp] theorem putEecon1_eeSequence (i : Nat) (b : Bool) (s : State) : (s.putEecon1 i b).eeSequence = s.eeSequence := rfl
@[simp] theorem putEecon1_draws (i : Nat) (b : Bool) (s : State) : (s.putEecon1 i b).draws = s.draws := rfl
@[simp] theorem putEecon1_schedule (i : Nat) (b : Bool) (s : State) : (s.putEecon1 i b).schedule = s.schedule := rfl

/-! ### setFlags -/

@[simp] theorem setFlags_w (u : FlagUpdate) (s : State) : (setFlags u s).w = s.w := rfl
@[simp] theorem setFlags_pc (u : FlagUpdate) (s : State) : (setFlags u s).pc = s.pc := rfl
@[simp] theorem setFlags_pclath (u : FlagUpdate) (s : State) : (setFlags u s).pclath = s.pclath := rfl
@[simp] theorem setFlags_stack (u : FlagUpdate) (s : State) : (setFlags u s).stack = s.stack := rfl
@[simp] theorem setFlags_sp (u : FlagUpdate) (s : State) : (setFlags u s).sp = s.sp := rfl
@[simp] theorem setFlags_tmr0 (u : FlagUpdate) (s : State) : (setFlags u s).tmr0 = s.tmr0 := rfl
@[simp] theorem setFlags_status (u : FlagUpdate) (s : State) : (setFlags u s).status = u.applyTo s.status := rfl
@[simp] theorem setFlags_fsr (u : FlagUpdate) (s : State) : (setFlags u s).fsr = s.fsr := rfl
@[simp] theorem setFlags_latA (u : FlagUpdate) (s : State) : (setFlags u s).latA = s.latA := rfl
@[simp] theorem setFlags_latB (u : FlagUpdate) (s : State) : (setFlags u s).latB = s.latB := rfl
@[simp] theorem setFlags_trisA (u : FlagUpdate) (s : State) : (setFlags u s).trisA = s.trisA := rfl
@[simp] theorem setFlags_trisB (u : FlagUpdate) (s : State) : (setFlags u s).trisB = s.trisB := rfl
@[simp] theorem setFlags_optionReg (u : FlagUpdate) (s : State) : (setFlags u s).optionReg = s.optionReg := rfl
@[simp] theorem setFlags_intcon (u : FlagUpdate) (s : State) : (setFlags u s).intcon = s.intcon := rfl
@[simp] theorem setFlags_eedata (u : FlagUpdate) (s : State) : (setFlags u s).eedata = s.eedata := rfl
@[simp] theorem setFlags_eeadr (u : FlagUpdate) (s : State) : (setFlags u s).eeadr = s.eeadr := rfl
@[simp] theorem setFlags_eecon1 (u : FlagUpdate) (s : State) : (setFlags u s).eecon1 = s.eecon1 := rfl
@[simp] theorem setFlags_ram (u : FlagUpdate) (s : State) : (setFlags u s).ram = s.ram := rfl
@[simp] theorem setFlags_ee (u : FlagUpdate) (s : State) : (setFlags u s).ee = s.ee := rfl
@[simp] theorem setFlags_prog (u : FlagUpdate) (s : State) : (setFlags u s).prog = s.prog := rfl
@[simp] theorem setFlags_wdt (u : FlagUpdate) (s : State) : (setFlags u s).wdt = s.wdt := rfl
@[simp] theorem setFlags_psc (u : FlagUpdate) (s : State) : (setFlags u s).psc = s.psc := rfl
@[simp] theorem setFlags_asleep (u : FlagUpdate) (s : State) : (setFlags u s).asleep = s.asleep := rfl
@[simp] theorem setFlags_deferIrq (u : FlagUpdate) (s : State) : (setFlags u s).deferIrq = s.deferIrq := rfl
@[simp] theorem setFlags_eeUnlock (u : FlagUpdate) (s : State) : (setFlags u s).eeUnlock = s.eeUnlock := rfl
@[simp] theorem setFlags_eeAddr (u : FlagUpdate) (s : State) : (setFlags u s).eeAddr = s.eeAddr := rfl
@[simp] theorem setFlags_eeData (u : FlagUpdate) (s : State) : (setFlags u s).eeData = s.eeData := rfl
@[simp] theorem setFlags_rbLatch (u : FlagUpdate) (s : State) : (setFlags u s).rbLatch = s.rbLatch := rfl
@[simp] theorem setFlags_cfg (u : FlagUpdate) (s : State) : (setFlags u s).cfg = s.cfg := rfl
@[simp] theorem setFlags_t0Inhibit (u : FlagUpdate) (s : State) : (setFlags u s).t0Inhibit = s.t0Inhibit := rfl
@[simp] theorem setFlags_cycles (u : FlagUpdate) (s : State) : (setFlags u s).cycles = s.cycles := rfl
@[simp] theorem setFlags_wdtMark (u : FlagUpdate) (s : State) : (setFlags u s).wdtMark = s.wdtMark := rfl
@[simp] theorem setFlags_eeSequence (u : FlagUpdate) (s : State) : (setFlags u s).eeSequence = s.eeSequence := rfl
@[simp] theorem setFlags_draws (u : FlagUpdate) (s : State) : (setFlags u s).draws = s.draws := rfl
@[simp] theorem setFlags_schedule (u : FlagUpdate) (s : State) : (setFlags u s).schedule = s.schedule := rfl

/-! ### countSequence -/

@[simp] theorem countSequence_w (i : Instr) (s : State) : (countSequence i s).w = s.w := rfl
@[simp] theorem countSequence_pc (i : Instr) (s : State) : (countSequence i s).pc = s.pc := rfl
@[simp] theorem countSequence_pclath (i : Instr) (s : State) : (countSequence i s).pclath = s.pclath := rfl
@[simp] theorem countSequence_stack (i : Instr) (s : State) : (countSequence i s).stack = s.stack := rfl
@[simp] theorem countSequence_sp (i : Instr) (s : State) : (countSequence i s).sp = s.sp := rfl
@[simp] theorem countSequence_tmr0 (i : Instr) (s : State) : (countSequence i s).tmr0 = s.tmr0 := rfl
@[simp] theorem countSequence_status (i : Instr) (s : State) : (countSequence i s).status = s.status := rfl
@[simp] theorem countSequence_fsr (i : Instr) (s : State) : (countSequence i s).fsr = s.fsr := rfl
@[simp] theorem countSequence_latA (i : Instr) (s : State) : (countSequence i s).latA = s.latA := rfl
@[simp] theorem countSequence_latB (i : Instr) (s : State) : (countSequence i s).latB = s.latB := rfl
@[simp] theorem countSequence_trisA (i : Instr) (s : State) : (countSequence i s).trisA = s.trisA := rfl
@[simp] theorem countSequence_trisB (i : Instr) (s : State) : (countSequence i s).trisB = s.trisB := rfl
@[simp] theorem countSequence_optionReg (i : Instr) (s : State) : (countSequence i s).optionReg = s.optionReg := rfl
@[simp] theorem countSequence_intcon (i : Instr) (s : State) : (countSequence i s).intcon = s.intcon := rfl
@[simp] theorem countSequence_eedata (i : Instr) (s : State) : (countSequence i s).eedata = s.eedata := rfl
@[simp] theorem countSequence_eeadr (i : Instr) (s : State) : (countSequence i s).eeadr = s.eeadr := rfl
@[simp] theorem countSequence_eecon1 (i : Instr) (s : State) : (countSequence i s).eecon1 = s.eecon1 := rfl
@[simp] theorem countSequence_ram (i : Instr) (s : State) : (countSequence i s).ram = s.ram := rfl
@[simp] theorem countSequence_ee (i : Instr) (s : State) : (countSequence i s).ee = s.ee := rfl
@[simp] theorem countSequence_prog (i : Instr) (s : State) : (countSequence i s).prog = s.prog := rfl
@[simp] theorem countSequence_wdt (i : Instr) (s : State) : (countSequence i s).wdt = s.wdt := rfl
@[simp] theorem countSequence_psc (i : Instr) (s : State) : (countSequence i s).psc = s.psc := rfl
@[simp] theorem countSequence_asleep (i : Instr) (s : State) : (countSequence i s).asleep = s.asleep := rfl
@[simp] theorem countSequence_deferIrq (i : Instr) (s : State) : (countSequence i s).deferIrq = s.deferIrq := rfl
@[simp] theorem countSequence_eeUnlock (i : Instr) (s : State) : (countSequence i s).eeUnlock = s.eeUnlock := rfl
@[simp] theorem countSequence_eeAddr (i : Instr) (s : State) : (countSequence i s).eeAddr = s.eeAddr := rfl
@[simp] theorem countSequence_eeData (i : Instr) (s : State) : (countSequence i s).eeData = s.eeData := rfl
@[simp] theorem countSequence_rbLatch (i : Instr) (s : State) : (countSequence i s).rbLatch = s.rbLatch := rfl
@[simp] theorem countSequence_cfg (i : Instr) (s : State) : (countSequence i s).cfg = s.cfg := rfl
@[simp] theorem countSequence_t0Inhibit (i : Instr) (s : State) : (countSequence i s).t0Inhibit = s.t0Inhibit := rfl
@[simp] theorem countSequence_cycles (i : Instr) (s : State) : (countSequence i s).cycles = s.cycles := rfl
@[simp] theorem countSequence_wdtMark (i : Instr) (s : State) : (countSequence i s).wdtMark = s.wdtMark := rfl
@[simp] theorem countSequence_eeSequence (i : Instr) (s : State) : (countSequence i s).eeSequence = sequenceAfter i s := rfl
@[simp] theorem countSequence_draws (i : Instr) (s : State) : (countSequence i s).draws = s.draws := rfl
@[simp] theorem countSequence_schedule (i : Instr) (s : State) : (countSequence i s).schedule = s.schedule := rfl

/-! ### clearWatchdog -/

@[simp] theorem clearWatchdog_w (s : State) : (clearWatchdog s).w = s.w := rfl
@[simp] theorem clearWatchdog_pc (s : State) : (clearWatchdog s).pc = s.pc := rfl
@[simp] theorem clearWatchdog_pclath (s : State) : (clearWatchdog s).pclath = s.pclath := rfl
@[simp] theorem clearWatchdog_stack (s : State) : (clearWatchdog s).stack = s.stack := rfl
@[simp] theorem clearWatchdog_sp (s : State) : (clearWatchdog s).sp = s.sp := rfl
@[simp] theorem clearWatchdog_tmr0 (s : State) : (clearWatchdog s).tmr0 = s.tmr0 := rfl
@[simp] theorem clearWatchdog_status (s : State) : (clearWatchdog s).status = s.status := rfl
@[simp] theorem clearWatchdog_fsr (s : State) : (clearWatchdog s).fsr = s.fsr := rfl
@[simp] theorem clearWatchdog_latA (s : State) : (clearWatchdog s).latA = s.latA := rfl
@[simp] theorem clearWatchdog_latB (s : State) : (clearWatchdog s).latB = s.latB := rfl
@[simp] theorem clearWatchdog_trisA (s : State) : (clearWatchdog s).trisA = s.trisA := rfl
@[simp] theorem clearWatchdog_trisB (s : State) : (clearWatchdog s).trisB = s.trisB := rfl
@[simp] theorem clearWatchdog_optionReg (s : State) : (clearWatchdog s).optionReg = s.optionReg := rfl
@[simp] theorem clearWatchdog_intcon (s : State) : (clearWatchdog s).intcon = s.intcon := rfl
@[simp] theorem clearWatchdog_eedata (s : State) : (clearWatchdog s).eedata = s.eedata := rfl
@[simp] theorem clearWatchdog_eeadr (s : State) : (clearWatchdog s).eeadr = s.eeadr := rfl
@[simp] theorem clearWatchdog_eecon1 (s : State) : (clearWatchdog s).eecon1 = s.eecon1 := rfl
@[simp] theorem clearWatchdog_ram (s : State) : (clearWatchdog s).ram = s.ram := rfl
@[simp] theorem clearWatchdog_ee (s : State) : (clearWatchdog s).ee = s.ee := rfl
@[simp] theorem clearWatchdog_prog (s : State) : (clearWatchdog s).prog = s.prog := rfl
@[simp] theorem clearWatchdog_wdt (s : State) : (clearWatchdog s).wdt = 0 := rfl
@[simp] theorem clearWatchdog_psc (s : State) : (clearWatchdog s).psc = if s.psa then 0#8 else s.psc := rfl
@[simp] theorem clearWatchdog_asleep (s : State) : (clearWatchdog s).asleep = s.asleep := rfl
@[simp] theorem clearWatchdog_deferIrq (s : State) : (clearWatchdog s).deferIrq = s.deferIrq := rfl
@[simp] theorem clearWatchdog_eeUnlock (s : State) : (clearWatchdog s).eeUnlock = s.eeUnlock := rfl
@[simp] theorem clearWatchdog_eeAddr (s : State) : (clearWatchdog s).eeAddr = s.eeAddr := rfl
@[simp] theorem clearWatchdog_eeData (s : State) : (clearWatchdog s).eeData = s.eeData := rfl
@[simp] theorem clearWatchdog_rbLatch (s : State) : (clearWatchdog s).rbLatch = s.rbLatch := rfl
@[simp] theorem clearWatchdog_cfg (s : State) : (clearWatchdog s).cfg = s.cfg := rfl
@[simp] theorem clearWatchdog_t0Inhibit (s : State) : (clearWatchdog s).t0Inhibit = s.t0Inhibit := rfl
@[simp] theorem clearWatchdog_cycles (s : State) : (clearWatchdog s).cycles = s.cycles := rfl
@[simp] theorem clearWatchdog_wdtMark (s : State) : (clearWatchdog s).wdtMark = s.cycles := rfl
@[simp] theorem clearWatchdog_eeSequence (s : State) : (clearWatchdog s).eeSequence = s.eeSequence := rfl
@[simp] theorem clearWatchdog_draws (s : State) : (clearWatchdog s).draws = s.draws := rfl
@[simp] theorem clearWatchdog_schedule (s : State) : (clearWatchdog s).schedule = s.schedule := rfl

end Sys2Proof.Machine
end

