-- ==== Sys2Proof/Laws/Operands.lean ====
section
/-! SUPPORT. What reading and writing a location of the register file leaves alone, field by field. -/

namespace Sys2Proof.Machine

/-! ### Reading a location changes only `draws` and `rbLatch` -/

@[simp] theorem readEffect_w (l : Loc) (s : State) : (readEffect l s).w = s.w := by
  cases l <;> rfl
@[simp] theorem afterRead_w (a : Byte) (s : State) : (afterRead a s).w = s.w :=
  readEffect_w (locOf a) s
@[simp] theorem readEffect_pc (l : Loc) (s : State) : (readEffect l s).pc = s.pc := by
  cases l <;> rfl
@[simp] theorem afterRead_pc (a : Byte) (s : State) : (afterRead a s).pc = s.pc :=
  readEffect_pc (locOf a) s
@[simp] theorem readEffect_pclath (l : Loc) (s : State) : (readEffect l s).pclath = s.pclath := by
  cases l <;> rfl
@[simp] theorem afterRead_pclath (a : Byte) (s : State) : (afterRead a s).pclath = s.pclath :=
  readEffect_pclath (locOf a) s
@[simp] theorem readEffect_stack (l : Loc) (s : State) : (readEffect l s).stack = s.stack := by
  cases l <;> rfl
@[simp] theorem afterRead_stack (a : Byte) (s : State) : (afterRead a s).stack = s.stack :=
  readEffect_stack (locOf a) s
@[simp] theorem readEffect_sp (l : Loc) (s : State) : (readEffect l s).sp = s.sp := by
  cases l <;> rfl
@[simp] theorem afterRead_sp (a : Byte) (s : State) : (afterRead a s).sp = s.sp :=
  readEffect_sp (locOf a) s
@[simp] theorem readEffect_tmr0 (l : Loc) (s : State) : (readEffect l s).tmr0 = s.tmr0 := by
  cases l <;> rfl
@[simp] theorem afterRead_tmr0 (a : Byte) (s : State) : (afterRead a s).tmr0 = s.tmr0 :=
  readEffect_tmr0 (locOf a) s
@[simp] theorem readEffect_status (l : Loc) (s : State) : (readEffect l s).status = s.status := by
  cases l <;> rfl
@[simp] theorem afterRead_status (a : Byte) (s : State) : (afterRead a s).status = s.status :=
  readEffect_status (locOf a) s
@[simp] theorem readEffect_fsr (l : Loc) (s : State) : (readEffect l s).fsr = s.fsr := by
  cases l <;> rfl
@[simp] theorem afterRead_fsr (a : Byte) (s : State) : (afterRead a s).fsr = s.fsr :=
  readEffect_fsr (locOf a) s
@[simp] theorem readEffect_latA (l : Loc) (s : State) : (readEffect l s).latA = s.latA := by
  cases l <;> rfl
@[simp] theorem afterRead_latA (a : Byte) (s : State) : (afterRead a s).latA = s.latA :=
  readEffect_latA (locOf a) s
@[simp] theorem readEffect_latB (l : Loc) (s : State) : (readEffect l s).latB = s.latB := by
  cases l <;> rfl
@[simp] theorem afterRead_latB (a : Byte) (s : State) : (afterRead a s).latB = s.latB :=
  readEffect_latB (locOf a) s
@[simp] theorem readEffect_trisA (l : Loc) (s : State) : (readEffect l s).trisA = s.trisA := by
  cases l <;> rfl
@[simp] theorem afterRead_trisA (a : Byte) (s : State) : (afterRead a s).trisA = s.trisA :=
  readEffect_trisA (locOf a) s
@[simp] theorem readEffect_trisB (l : Loc) (s : State) : (readEffect l s).trisB = s.trisB := by
  cases l <;> rfl
@[simp] theorem afterRead_trisB (a : Byte) (s : State) : (afterRead a s).trisB = s.trisB :=
  readEffect_trisB (locOf a) s
@[simp] theorem readEffect_optionReg (l : Loc) (s : State) : (readEffect l s).optionReg = s.optionReg := by
  cases l <;> rfl
@[simp] theorem afterRead_optionReg (a : Byte) (s : State) : (afterRead a s).optionReg = s.optionReg :=
  readEffect_optionReg (locOf a) s
@[simp] theorem readEffect_intcon (l : Loc) (s : State) : (readEffect l s).intcon = s.intcon := by
  cases l <;> rfl
@[simp] theorem afterRead_intcon (a : Byte) (s : State) : (afterRead a s).intcon = s.intcon :=
  readEffect_intcon (locOf a) s
@[simp] theorem readEffect_eedata (l : Loc) (s : State) : (readEffect l s).eedata = s.eedata := by
  cases l <;> rfl
@[simp] theorem afterRead_eedata (a : Byte) (s : State) : (afterRead a s).eedata = s.eedata :=
  readEffect_eedata (locOf a) s
@[simp] theorem readEffect_eeadr (l : Loc) (s : State) : (readEffect l s).eeadr = s.eeadr := by
  cases l <;> rfl
@[simp] theorem afterRead_eeadr (a : Byte) (s : State) : (afterRead a s).eeadr = s.eeadr :=
  readEffect_eeadr (locOf a) s
@[simp] theorem readEffect_eecon1 (l : Loc) (s : State) : (readEffect l s).eecon1 = s.eecon1 := by
  cases l <;> rfl
@[simp] theorem afterRead_eecon1 (a : Byte) (s : State) : (afterRead a s).eecon1 = s.eecon1 :=
  readEffect_eecon1 (locOf a) s
@[simp] theorem readEffect_ram (l : Loc) (s : State) : (readEffect l s).ram = s.ram := by
  cases l <;> rfl
@[simp] theorem afterRead_ram (a : Byte) (s : State) : (afterRead a s).ram = s.ram :=
  readEffect_ram (locOf a) s
@[simp] theorem readEffect_ee (l : Loc) (s : State) : (readEffect l s).ee = s.ee := by
  cases l <;> rfl
@[simp] theorem afterRead_ee (a : Byte) (s : State) : (afterRead a s).ee = s.ee :=
  readEffect_ee (locOf a) s
@[simp] theorem readEffect_prog (l : Loc) (s : State) : (readEffect l s).prog = s.prog := by
  cases l <;> rfl
@[simp] theorem afterRead_prog (a : Byte) (s : State) : (afterRead a s).prog = s.prog :=
  readEffect_prog (locOf a) s
@[simp] theorem readEffect_wdt (l : Loc) (s : State) : (readEffect l s).wdt = s.wdt := by
  cases l <;> rfl
@[simp] theorem afterRead_wdt (a : Byte) (s : State) : (afterRead a s).wdt = s.wdt :=
  readEffect_wdt (locOf a) s
@[simp] theorem readEffect_psc (l : Loc) (s : State) : (readEffect l s).psc = s.psc := by
  cases l <;> rfl
@[simp] theorem afterRead_psc (a : Byte) (s : State) : (afterRead a s).psc = s.psc :=
  readEffect_psc (locOf a) s
@[simp] theorem readEffect_asleep (l : Loc) (s : State) : (readEffect l s).asleep = s.asleep := by
  cases l <;> rfl
@[simp] theorem afterRead_asleep (a : Byte) (s : State) : (afterRead a s).asleep = s.asleep :=
  readEffect_asleep (locOf a) s
@[simp] theorem readEffect_deferIrq (l : Loc) (s : State) : (readEffect l s).deferIrq = s.deferIrq := by
  cases l <;> rfl
@[simp] theorem afterRead_deferIrq (a : Byte) (s : State) : (afterRead a s).deferIrq = s.deferIrq :=
  readEffect_deferIrq (locOf a) s
@[simp] theorem readEffect_eeUnlock (l : Loc) (s : State) : (readEffect l s).eeUnlock = s.eeUnlock := by
  cases l <;> rfl
@[simp] theorem afterRead_eeUnlock (a : Byte) (s : State) : (afterRead a s).eeUnlock = s.eeUnlock :=
  readEffect_eeUnlock (locOf a) s
@[simp] theorem readEffect_eeAddr (l : Loc) (s : State) : (readEffect l s).eeAddr = s.eeAddr := by
  cases l <;> rfl
@[simp] theorem afterRead_eeAddr (a : Byte) (s : State) : (afterRead a s).eeAddr = s.eeAddr :=
  readEffect_eeAddr (locOf a) s
@[simp] theorem readEffect_eeData (l : Loc) (s : State) : (readEffect l s).eeData = s.eeData := by
  cases l <;> rfl
@[simp] theorem afterRead_eeData (a : Byte) (s : State) : (afterRead a s).eeData = s.eeData :=
  readEffect_eeData (locOf a) s
@[simp] theorem readEffect_cfg (l : Loc) (s : State) : (readEffect l s).cfg = s.cfg := by
  cases l <;> rfl
@[simp] theorem afterRead_cfg (a : Byte) (s : State) : (afterRead a s).cfg = s.cfg :=
  readEffect_cfg (locOf a) s
@[simp] theorem readEffect_t0Inhibit (l : Loc) (s : State) : (readEffect l s).t0Inhibit = s.t0Inhibit := by
  cases l <;> rfl
@[simp] theorem afterRead_t0Inhibit (a : Byte) (s : State) : (afterRead a s).t0Inhibit = s.t0Inhibit :=
  readEffect_t0Inhibit (locOf a) s
@[simp] theorem readEffect_cycles (l : Loc) (s : State) : (readEffect l s).cycles = s.cycles := by
  cases l <;> rfl
@[simp] theorem afterRead_cycles (a : Byte) (s : State) : (afterRead a s).cycles = s.cycles :=
  readEffect_cycles (locOf a) s
@[simp] theorem readEffect_wdtMark (l : Loc) (s : State) : (readEffect l s).wdtMark = s.wdtMark := by
  cases l <;> rfl
@[simp] theorem afterRead_wdtMark (a : Byte) (s : State) : (afterRead a s).wdtMark = s.wdtMark :=
  readEffect_wdtMark (locOf a) s
@[simp] theorem readEffect_eeSequence (l : Loc) (s : State) : (readEffect l s).eeSequence = s.eeSequence := by
  cases l <;> rfl
@[simp] theorem afterRead_eeSequence (a : Byte) (s : State) : (afterRead a s).eeSequence = s.eeSequence :=
  readEffect_eeSequence (locOf a) s
@[simp] theorem readEffect_schedule (l : Loc) (s : State) : (readEffect l s).schedule = s.schedule := by
  cases l <;> rfl
@[simp] theorem afterRead_schedule (a : Byte) (s : State) : (afterRead a s).schedule = s.schedule :=
  readEffect_schedule (locOf a) s

/-! ### Writing EECON1 changes only the data EEPROM's registers -/

@[simp] theorem writeEecon1_w (v : Byte) (s : State) : (writeEecon1 v s).w = s.w := by
  simp only [writeEecon1, eeRead, eeWriteStart]; split <;> split <;> rfl
@[simp] theorem writeEecon1_pc (v : Byte) (s : State) : (writeEecon1 v s).pc = s.pc := by
  simp only [writeEecon1, eeRead, eeWriteStart]; split <;> split <;> rfl
@[simp] theorem writeEecon1_pclath (v : Byte) (s : State) : (writeEecon1 v s).pclath = s.pclath := by
  simp only [writeEecon1, eeRead, eeWriteStart]; split <;> split <;> rfl
@[simp] theorem writeEecon1_stack (v : Byte) (s : State) : (writeEecon1 v s).stack = s.stack := by
  simp only [writeEecon1, eeRead, eeWriteStart]; split <;> split <;> rfl
@[simp] theorem writeEecon1_sp (v : Byte) (s : State) : (writeEecon1 v s).sp = s.sp := by
  simp only [writeEecon1, eeRead, eeWriteStart]; split <;> split <;> rfl
@[simp] theorem writeEecon1_tmr0 (v : Byte) (s : State) : (writeEecon1 v s).tmr0 = s.tmr0 := by
  simp only [writeEecon1, eeRead, eeWriteStart]; split <;> split <;> rfl
@[simp] theorem writeEecon1_status (v : Byte) (s : State) : (writeEecon1 v s).status = s.status := by
  simp only [writeEecon1, eeRead, eeWriteStart]; split <;> split <;> rfl
@[simp] theorem writeEecon1_fsr (v : Byte) (s : State) : (writeEecon1 v s).fsr = s.fsr := by
  simp only [writeEecon1, eeRead, eeWriteStart]; split <;> split <;> rfl
@[simp] theorem writeEecon1_latA (v : Byte) (s : State) : (writeEecon1 v s).latA = s.latA := by
  simp only [writeEecon1, eeRead, eeWriteStart]; split <;> split <;> rfl
@[simp] theorem writeEecon1_latB (v : Byte) (s : State) : (writeEecon1 v s).latB = s.latB := by
  simp only [writeEecon1, eeRead, eeWriteStart]; split <;> split <;> rfl
@[simp] theorem writeEecon1_trisA (v : Byte) (s : State) : (writeEecon1 v s).trisA = s.trisA := by
  simp only [writeEecon1, eeRead, eeWriteStart]; split <;> split <;> rfl
@[simp] theorem writeEecon1_trisB (v : Byte) (s : State) : (writeEecon1 v s).trisB = s.trisB := by
  simp only [writeEecon1, eeRead, eeWriteStart]; split <;> split <;> rfl
@[simp] theorem writeEecon1_optionReg (v : Byte) (s : State) : (writeEecon1 v s).optionReg = s.optionReg := by
  simp only [writeEecon1, eeRead, eeWriteStart]; split <;> split <;> rfl
@[simp] theorem writeEecon1_intcon (v : Byte) (s : State) : (writeEecon1 v s).intcon = s.intcon := by
  simp only [writeEecon1, eeRead, eeWriteStart]; split <;> split <;> rfl
@[simp] theorem writeEecon1_eeadr (v : Byte) (s : State) : (writeEecon1 v s).eeadr = s.eeadr := by
  simp only [writeEecon1, eeRead, eeWriteStart]; split <;> split <;> rfl
@[simp] theorem writeEecon1_ram (v : Byte) (s : State) : (writeEecon1 v s).ram = s.ram := by
  simp only [writeEecon1, eeRead, eeWriteStart]; split <;> split <;> rfl
@[simp] theorem writeEecon1_ee (v : Byte) (s : State) : (writeEecon1 v s).ee = s.ee := by
  simp only [writeEecon1, eeRead, eeWriteStart]; split <;> split <;> rfl
@[simp] theorem writeEecon1_prog (v : Byte) (s : State) : (writeEecon1 v s).prog = s.prog := by
  simp only [writeEecon1, eeRead, eeWriteStart]; split <;> split <;> rfl
@[simp] theorem writeEecon1_wdt (v : Byte) (s : State) : (writeEecon1 v s).wdt = s.wdt := by
  simp only [writeEecon1, eeRead, eeWriteStart]; split <;> split <;> rfl
@[simp] theorem writeEecon1_psc (v : Byte) (s : State) : (writeEecon1 v s).psc = s.psc := by
  simp only [writeEecon1, eeRead, eeWriteStart]; split <;> split <;> rfl
@[simp] theorem writeEecon1_asleep (v : Byte) (s : State) : (writeEecon1 v s).asleep = s.asleep := by
  simp only [writeEecon1, eeRead, eeWriteStart]; split <;> split <;> rfl
@[simp] theorem writeEecon1_deferIrq (v : Byte) (s : State) : (writeEecon1 v s).deferIrq = s.deferIrq := by
  simp only [writeEecon1, eeRead, eeWriteStart]; split <;> split <;> rfl
@[simp] theorem writeEecon1_rbLatch (v : Byte) (s : State) : (writeEecon1 v s).rbLatch = s.rbLatch := by
  simp only [writeEecon1, eeRead, eeWriteStart]; split <;> split <;> rfl
@[simp] theorem writeEecon1_cfg (v : Byte) (s : State) : (writeEecon1 v s).cfg = s.cfg := by
  simp only [writeEecon1, eeRead, eeWriteStart]; split <;> split <;> rfl
@[simp] theorem writeEecon1_t0Inhibit (v : Byte) (s : State) : (writeEecon1 v s).t0Inhibit = s.t0Inhibit := by
  simp only [writeEecon1, eeRead, eeWriteStart]; split <;> split <;> rfl
@[simp] theorem writeEecon1_cycles (v : Byte) (s : State) : (writeEecon1 v s).cycles = s.cycles := by
  simp only [writeEecon1, eeRead, eeWriteStart]; split <;> split <;> rfl
@[simp] theorem writeEecon1_wdtMark (v : Byte) (s : State) : (writeEecon1 v s).wdtMark = s.wdtMark := by
  simp only [writeEecon1, eeRead, eeWriteStart]; split <;> split <;> rfl
@[simp] theorem writeEecon1_eeSequence (v : Byte) (s : State) : (writeEecon1 v s).eeSequence = s.eeSequence := by
  simp only [writeEecon1, eeRead, eeWriteStart]; split <;> split <;> rfl
@[simp] theorem writeEecon1_schedule (v : Byte) (s : State) : (writeEecon1 v s).schedule = s.schedule := by
  simp only [writeEecon1, eeRead, eeWriteStart]; split <;> split <;> rfl

/-! ### Writing a location changes only its own register -/

@[simp] theorem writeLoc_w (affects : Bool) (l : Loc) (v : Byte) (s : State) :
    (writeLoc affects l v s).w = s.w := by
  cases l <;> simp [writeLoc, writeTmr0, writeEecon2]
theorem writeLoc_pc (affects : Bool) {l : Loc} (v : Byte) (s : State)
    (h0 : l ≠ .pcl) : (writeLoc affects l v s).pc = s.pc := by
  cases l <;> simp_all [writeLoc, writeTmr0, writeEecon2]
theorem writeLoc_pclath (affects : Bool) {l : Loc} (v : Byte) (s : State)
    (h0 : l ≠ .pclath) : (writeLoc affects l v s).pclath = s.pclath := by
  cases l <;> simp_all [writeLoc, writeTmr0, writeEecon2]
@[simp] theorem writeLoc_stack (affects : Bool) (l : Loc) (v : Byte) (s : State) :
    (writeLoc affects l v s).stack = s.stack := by
  cases l <;> simp [writeLoc, writeTmr0, writeEecon2]
@[simp] theorem writeLoc_sp (affects : Bool) (l : Loc) (v : Byte) (s : State) :
    (writeLoc affects l v s).sp = s.sp := by
  cases l <;> simp [writeLoc, writeTmr0, writeEecon2]
theorem writeLoc_tmr0 (affects : Bool) {l : Loc} (v : Byte) (s : State)
    (h0 : l ≠ .tmr0) : (writeLoc affects l v s).tmr0 = s.tmr0 := by
  cases l <;> simp_all [writeLoc, writeTmr0, writeEecon2]
theorem writeLoc_status (affects : Bool) {l : Loc} (v : Byte) (s : State)
    (h0 : l ≠ .status) : (writeLoc affects l v s).status = s.status := by
  cases l <;> simp_all [writeLoc, writeTmr0, writeEecon2]
theorem writeLoc_fsr (affects : Bool) {l : Loc} (v : Byte) (s : State)
    (h0 : l ≠ .fsr) : (writeLoc affects l v s).fsr = s.fsr := by
  cases l <;> simp_all [writeLoc, writeTmr0, writeEecon2]
theorem writeLoc_latA (affects : Bool) {l : Loc} (v : Byte) (s : State)
    (h0 : l ≠ .portA) : (writeLoc affects l v s).latA = s.latA := by
  cases l <;> simp_all [writeLoc, writeTmr0, writeEecon2]
theorem writeLoc_latB (affects : Bool) {l : Loc} (v : Byte) (s : State)
    (h0 : l ≠ .portB) : (writeLoc affects l v s).latB = s.latB := by
  cases l <;> simp_all [writeLoc, writeTmr0, writeEecon2]
theorem writeLoc_trisA (affects : Bool) {l : Loc} (v : Byte) (s : State)
    (h0 : l ≠ .trisA) : (writeLoc affects l v s).trisA = s.trisA := by
  cases l <;> simp_all [writeLoc, writeTmr0, writeEecon2]
theorem writeLoc_trisB (affects : Bool) {l : Loc} (v : Byte) (s : State)
    (h0 : l ≠ .trisB) : (writeLoc affects l v s).trisB = s.trisB := by
  cases l <;> simp_all [writeLoc, writeTmr0, writeEecon2]
theorem writeLoc_optionReg (affects : Bool) {l : Loc} (v : Byte) (s : State)
    (h0 : l ≠ .optionReg) : (writeLoc affects l v s).optionReg = s.optionReg := by
  cases l <;> simp_all [writeLoc, writeTmr0, writeEecon2]
theorem writeLoc_intcon (affects : Bool) {l : Loc} (v : Byte) (s : State)
    (h0 : l ≠ .intcon) : (writeLoc affects l v s).intcon = s.intcon := by
  cases l <;> simp_all [writeLoc, writeTmr0, writeEecon2]
theorem writeLoc_eedata (affects : Bool) {l : Loc} (v : Byte) (s : State)
    (h0 : l ≠ .eedata) (h1 : l ≠ .eecon1) : (writeLoc affects l v s).eedata = s.eedata := by
  cases l <;> simp_all [writeLoc, writeTmr0, writeEecon2]
theorem writeLoc_eeadr (affects : Bool) {l : Loc} (v : Byte) (s : State)
    (h0 : l ≠ .eeadr) : (writeLoc affects l v s).eeadr = s.eeadr := by
  cases l <;> simp_all [writeLoc, writeTmr0, writeEecon2]
theorem writeLoc_eecon1 (affects : Bool) {l : Loc} (v : Byte) (s : State)
    (h0 : l ≠ .eecon1) : (writeLoc affects l v s).eecon1 = s.eecon1 := by
  cases l <;> simp_all [writeLoc, writeTmr0, writeEecon2]
theorem writeLoc_ram (affects : Bool) (l : Loc) (v : Byte) (s : State) :
    (writeLoc affects l v s).ram = match l with | .gpr n => s.ram.write n v | _ => s.ram := by
  cases l <;> simp [writeLoc, writeTmr0, writeEecon2]
theorem writeLoc_ram_read (affects : Bool) {l : Loc} (v : Byte) (s : State) {n : Nat}
    (h : l ≠ .gpr n) : (writeLoc affects l v s).ram.read n = s.ram.read n := by
  rw [writeLoc_ram]
  cases l <;> simp_all
  exact Memory.read_write_other _ _ (by omega)
@[simp] theorem writeLoc_ee (affects : Bool) (l : Loc) (v : Byte) (s : State) :
    (writeLoc affects l v s).ee = s.ee := by
  cases l <;> simp [writeLoc, writeTmr0, writeEecon2]
@[simp] theorem writeLoc_prog (affects : Bool) (l : Loc) (v : Byte) (s : State) :
    (writeLoc affects l v s).prog = s.prog := by
  cases l <;> simp [writeLoc, writeTmr0, writeEecon2]
@[simp] theorem writeLoc_wdt (affects : Bool) (l : Loc) (v : Byte) (s : State) :
    (writeLoc affects l v s).wdt = s.wdt := by
  cases l <;> simp [writeLoc, writeTmr0, writeEecon2]
theorem writeLoc_psc (affects : Bool) {l : Loc} (v : Byte) (s : State)
    (h0 : l ≠ .tmr0) : (writeLoc affects l v s).psc = s.psc := by
  cases l <;> simp_all [writeLoc, writeTmr0, writeEecon2]
@[simp] theorem writeLoc_asleep (affects : Bool) (l : Loc) (v : Byte) (s : State) :
    (writeLoc affects l v s).asleep = s.asleep := by
  cases l <;> simp [writeLoc, writeTmr0, writeEecon2]
@[simp] theorem writeLoc_deferIrq (affects : Bool) (l : Loc) (v : Byte) (s : State) :
    (writeLoc affects l v s).deferIrq = s.deferIrq := by
  cases l <;> simp [writeLoc, writeTmr0, writeEecon2]
theorem writeLoc_eeUnlock (affects : Bool) {l : Loc} (v : Byte) (s : State)
    (h0 : l ≠ .eecon1) (h1 : l ≠ .eecon2) : (writeLoc affects l v s).eeUnlock = s.eeUnlock := by
  cases l <;> simp_all [writeLoc, writeTmr0, writeEecon2]
theorem writeLoc_eeAddr (affects : Bool) {l : Loc} (v : Byte) (s : State)
    (h0 : l ≠ .eecon1) : (writeLoc affects l v s).eeAddr = s.eeAddr := by
  cases l <;> simp_all [writeLoc, writeTmr0, writeEecon2]
theorem writeLoc_eeData (affects : Bool) {l : Loc} (v : Byte) (s : State)
    (h0 : l ≠ .eecon1) : (writeLoc affects l v s).eeData = s.eeData := by
  cases l <;> simp_all [writeLoc, writeTmr0, writeEecon2]
@[simp] theorem writeLoc_rbLatch (affects : Bool) (l : Loc) (v : Byte) (s : State) :
    (writeLoc affects l v s).rbLatch = s.rbLatch := by
  cases l <;> simp [writeLoc, writeTmr0, writeEecon2]
@[simp] theorem writeLoc_cfg (affects : Bool) (l : Loc) (v : Byte) (s : State) :
    (writeLoc affects l v s).cfg = s.cfg := by
  cases l <;> simp [writeLoc, writeTmr0, writeEecon2]
theorem writeLoc_t0Inhibit (affects : Bool) {l : Loc} (v : Byte) (s : State)
    (h0 : l ≠ .tmr0) : (writeLoc affects l v s).t0Inhibit = s.t0Inhibit := by
  cases l <;> simp_all [writeLoc, writeTmr0, writeEecon2]
theorem writeLoc_cycles (affects : Bool) {l : Loc} (v : Byte) (s : State)
    (h0 : l ≠ .pcl) : (writeLoc affects l v s).cycles = s.cycles := by
  cases l <;> simp_all [writeLoc, writeTmr0, writeEecon2]
@[simp] theorem writeLoc_wdtMark (affects : Bool) (l : Loc) (v : Byte) (s : State) :
    (writeLoc affects l v s).wdtMark = s.wdtMark := by
  cases l <;> simp [writeLoc, writeTmr0, writeEecon2]
@[simp] theorem writeLoc_eeSequence (affects : Bool) (l : Loc) (v : Byte) (s : State) :
    (writeLoc affects l v s).eeSequence = s.eeSequence := by
  cases l <;> simp [writeLoc, writeTmr0, writeEecon2]
theorem writeLoc_draws (affects : Bool) {l : Loc} (v : Byte) (s : State)
    (h0 : l ≠ .eecon1) : (writeLoc affects l v s).draws = s.draws := by
  cases l <;> simp_all [writeLoc, writeTmr0, writeEecon2]
@[simp] theorem writeLoc_schedule (affects : Bool) (l : Loc) (v : Byte) (s : State) :
    (writeLoc affects l v s).schedule = s.schedule := by
  cases l <;> simp [writeLoc, writeTmr0, writeEecon2]

end Sys2Proof.Machine
end

