-- ==== Sys2Proof/Laws/Flags.lean ====
section
/-! SUPPORT. The flags after an instruction: what FlagUpdate.applyTo writes and what it leaves, and what a
write to the file register does to the flags first. -/

namespace Sys2Proof.Machine

/-- A flag position after it is written or left alone. -/
theorem getLsbD_putFlag (v : Byte) (i j : Nat) (flag : Option Bool) :
    (putFlag v i flag).getLsbD j = if i = j ∧ i < 8 then flag.getD (v.getLsbD j) else v.getLsbD j := by
  cases flag
  · simp [putFlag]
  · simp [putFlag, getLsbD_putBit]

/-- Every bit of STATUS after the flags are applied. -/
theorem getLsbD_applyTo (u : FlagUpdate) (v : Byte) (j : Nat) :
    (u.applyTo v).getLsbD j =
      if j = 0 then u.c.getD (v.getLsbD 0)
      else if j = 1 then u.dc.getD (v.getLsbD 1)
      else if j = 2 then u.z.getD (v.getLsbD 2)
      else v.getLsbD j := by
  simp only [FlagUpdate.applyTo, getLsbD_putFlag]
  rcases j with _ | _ | _ | j <;> simp

/-- Bits 7:3 of STATUS are no flags of the arithmetic instructions. -/
theorem applyTo_high (u : FlagUpdate) (v : Byte) :
    (u.applyTo v).extractLsb' 3 5 = v.extractLsb' 3 5 := by
  apply BitVec.eq_of_getLsbD_eq
  intro j hj
  simp only [BitVec.getLsbD_extractLsb', getLsbD_applyTo]
  rw [if_neg (by omega), if_neg (by omega), if_neg (by omega)]

/-- An update that affects no flag leaves STATUS as it is. -/
@[simp] theorem applyTo_none (v : Byte) : FlagUpdate.none.applyTo v = v := rfl

/-- Setting no flag changes nothing. -/
@[simp] theorem setFlags_none (s : State) : setFlags FlagUpdate.none s = s := rfl

/-- Z after the flags are set. -/
@[simp] theorem setFlags_zero (u : FlagUpdate) (s : State) :
    (setFlags u s).zero = u.z.getD s.zero := getLsbD_applyTo u s.status 2

/-- DC after the flags are set. -/
@[simp] theorem setFlags_digitCarry (u : FlagUpdate) (s : State) :
    (setFlags u s).digitCarry = u.dc.getD s.digitCarry := getLsbD_applyTo u s.status 1

/-- C after the flags are set. -/
@[simp] theorem setFlags_carry (u : FlagUpdate) (s : State) :
    (setFlags u s).carry = u.c.getD s.carry := getLsbD_applyTo u s.status 0

/-- Every bit of STATUS after it is written as a destination (R29). -/
theorem getLsbD_statusAfter (affects : Bool) (v old : Byte) (j : Nat) :
    (statusAfter affects v old).getLsbD j =
      if j < 3 then (if affects then old.getLsbD j else v.getLsbD j)
      else if j < 5 then old.getLsbD j
      else v.getLsbD j := by
  show (_ ++ _ ++ _ : BitVec (3 + 2 + 3)).getLsbD j = _
  rw [BitVec.getLsbD_append, BitVec.getLsbD_append]
  simp only [BitVec.getLsbD_extractLsb']
  by_cases h3 : j < 3
  · cases affects <;> simp [h3]
  · by_cases h5 : j < 5
    · have h2 : j - 3 < 2 := by omega
      have hj : 3 + (j - 3) = j := by omega
      simp [h3, h5, h2, hj]
    · have h2 : ¬ j - 3 < 2 := by omega
      have hj : 5 + (j - 3 - 2) = j := by omega
      by_cases h8 : j < 8
      · have h1 : j - 3 - 2 < 3 := by omega
        simp [h3, h5, h2, hj, h1]
      · have h1 : ¬ j - 3 - 2 < 3 := by omega
        simp [h3, h5, h2, h1, BitVec.getLsbD_of_ge v j (by omega)]

/-- A write by an instruction that affects a flag leaves Z, DC and C to that instruction (R29). -/
theorem writeLoc_flags (l : Loc) (v : Byte) (s : State) {j : Nat} (hj : j < 3) :
    (writeLoc true l v s).status.getLsbD j = s.status.getLsbD j := by
  by_cases h : l = .status
  · subst h
    simp [writeLoc, getLsbD_statusAfter, hj]
  · rw [writeLoc_status _ _ _ h]

/-- The same for the destination of an instruction (R29, R141). -/
theorem storeResult_flags (d : Dest) (a r : Byte) (s : State) {j : Nat} (hj : j < 3) :
    (storeResult true d a r s).status.getLsbD j = s.status.getLsbD j := by
  cases d
  · rfl
  · exact writeLoc_flags (locOf a) r s hj

/-- No register write changes TO or PD (R29). -/
theorem storeResult_timeOut_powerDown (affects : Bool) (d : Dest) (a r : Byte) (s : State) {j : Nat}
    (h3 : 3 ≤ j) (h5 : j < 5) :
    (storeResult affects d a r s).status.getLsbD j = s.status.getLsbD j := by
  cases d
  · rfl
  · by_cases h : locOf a = .status
    · have hj : ¬ j < 3 := by omega
      simp [storeResult, fileWrite, h, writeLoc, getLsbD_statusAfter, hj, h5]
    · simp only [storeResult, fileWrite]
      rw [writeLoc_status _ _ _ h]

/-- Everything an instruction of the shape `fileOperate` does that affects a flag: the result is stored,
an affected flag takes the computed value, an unaffected one is unchanged (R29, R53, R141). -/
theorem fileOperate_flagged (d : Dest) (f : BitVec 7) (alu : Byte → AluOut)
    (move : Byte → State → State) (s : State) (y : AluOut) (hy : y = alu (fileValue (ea f s) s))
    (haff : y.flags.affectsAny = true) (hmove : ∀ r u, (move r u).status = u.status) :
    let u := move y.result (afterRead (ea f s) s)
    let t := fileOperate d f alu move s
    t = { storeResult true d (ea f s) y.result u with status := t.status } ∧
    t.status.extractLsb' 3 5 = (storeResult true d (ea f s) y.result u).status.extractLsb' 3 5 ∧
    t.zero = y.flags.z.getD s.zero ∧ t.digitCarry = y.flags.dc.getD s.digitCarry ∧
    t.carry = y.flags.c.getD s.carry := by
  subst hy
  simp only [fileOperate, haff]
  have hkeep : ∀ j, j < 3 → (storeResult true d (ea f s) (alu (fileValue (ea f s) s)).result
      (move (alu (fileValue (ea f s) s)).result (afterRead (ea f s) s))).status.getLsbD j =
      s.status.getLsbD j := fun j hj => by
    rw [storeResult_flags _ _ _ _ hj, hmove, afterRead_status]
  refine ⟨rfl, applyTo_high _ _, ?_, ?_, ?_⟩
  · rw [setFlags_zero, State.zero, hkeep 2 (by omega)]; rfl
  · rw [setFlags_digitCarry, State.digitCarry, hkeep 1 (by omega)]; rfl
  · rw [setFlags_carry, State.carry, hkeep 0 (by omega)]; rfl

/-- Everything an instruction of the shape `fileOperate` does that affects no flag: the result is stored,
and STATUS changes only as a destination (R29, R141). -/
theorem fileOperate_plain (d : Dest) (f : BitVec 7) (alu : Byte → AluOut)
    (move : Byte → State → State) (s : State) (r : Byte)
    (hr : alu (fileValue (ea f s) s) = plainOut r) :
    fileOperate d f alu move s =
      storeResult false d (ea f s) r (move r (afterRead (ea f s) s)) := by
  simp only [fileOperate, hr]
  rfl

/-- Everything an instruction of the shape `literalOperate` does (R190). -/
theorem literalOperate_spec (y : AluOut) (s : State) :
    let t := literalOperate y s
    t = { s with w := y.result, status := t.status, pc := s.pc + 1#13, cycles := s.cycles + 1 } ∧
    t.status.extractLsb' 3 5 = s.status.extractLsb' 3 5 ∧
    t.zero = y.flags.z.getD s.zero ∧ t.digitCarry = y.flags.dc.getD s.digitCarry ∧
    t.carry = y.flags.c.getD s.carry := by
  exact ⟨rfl, applyTo_high _ _, setFlags_zero _ _, setFlags_digitCarry _ _, setFlags_carry _ _⟩

end Sys2Proof.Machine
end

