-- ==== Sys2Proof/Laws/Ops.lean ====
section
/-! SUPPORT. Everything the shared operations over time, the stack, the data EEPROM and the resets can do,
said once each. -/

namespace Sys2Proof.Machine

/-! ### The stack -/

/-- The pushed value stands where the pointer stood. -/
theorem push_stackAt_self (v : ProgAddr) (s : State) : (push v s).stackAt s.sp = v := by
  simp [State.stackAt, push]

/-- A push leaves every other entry alone. -/
theorem push_stackAt_other (v : ProgAddr) (s : State) {j : BitVec 3} (h : j ≠ s.sp) :
    (push v s).stackAt j = s.stackAt j := by
  simp only [State.stackAt, push]
  rw [Vector.getElem_set_ne]
  exact fun e => h (BitVec.eq_of_toNat_eq e.symm)

/-- A pop after a push gives back the value and the pointer. -/
theorem popToPc_push (v : ProgAddr) (s : State) :
    (popToPc (push v s)).pc = v ∧ (popToPc (push v s)).sp = s.sp := by
  have h : s.sp + 1#3 - 1#3 = s.sp := by simp
  constructor
  · show (push v s).stackAt (s.sp + 1#3 - 1#3) = v
    rw [h, push_stackAt_self]
  · exact h

/-! ### Timer0 -/

/-- The states Timer0's counting can lead to: the prescaler, TMR0, T0IF (which can only be set) and the
holding of the count may change, and nothing else. -/
def TimerChange (s t : State) : Prop :=
  ∃ (p v : Byte) (b : Bool) (h : BitVec 2),
    t = { s with
      psc := p
      tmr0 := v
      intcon := if b then putBit s.intcon 2 true else s.intcon
      t0Inhibit := h }

/-- Setting a bit twice is setting it once. -/
theorem putBit_putBit {n : Nat} (v : BitVec n) (i : Nat) (b : Bool) :
    putBit (putBit v i b) i b = putBit v i b := by
  apply BitVec.eq_of_getLsbD_eq
  intro j _
  simp only [getLsbD_putBit]
  split <;> rfl

/-- Nothing happening is a change of Timer0. -/
theorem TimerChange.refl (s : State) : TimerChange s s := ⟨s.psc, s.tmr0, false, s.t0Inhibit, rfl⟩

/-- Two changes of Timer0 in a row are one. -/
theorem TimerChange.trans {s t u : State} (h₁ : TimerChange s t) (h₂ : TimerChange t u) :
    TimerChange s u := by
  obtain ⟨p, v, b, h, rfl⟩ := h₁
  obtain ⟨p', v', b', h', rfl⟩ := h₂
  refine ⟨p', v', b || b', h', ?_⟩
  cases b <;> cases b' <;> simp [putBit_putBit]

/-- One count of TMR0. -/
theorem incTmr0_change (s : State) : TimerChange s (incTmr0 s) :=
  ⟨s.psc, s.tmr0 + 1#8, decide (s.tmr0 = 0xFF#8), s.t0Inhibit, by
    simp [incTmr0]⟩

/-- One count at Timer0's input. -/
theorem countTmr0_change (s : State) : TimerChange s (countTmr0 s) := by
  unfold countTmr0
  split
  · exact incTmr0_change s
  · dsimp only
    split
    · exact .trans ⟨s.psc + 1#8, s.tmr0, false, s.t0Inhibit, rfl⟩ (incTmr0_change _)
    · exact ⟨s.psc + 1#8, s.tmr0, false, s.t0Inhibit, rfl⟩

/-- One instruction cycle of Timer0. -/
theorem timerCycle_change (s : State) : TimerChange s (timerCycle s) := by
  unfold timerCycle
  split
  · exact ⟨s.psc, s.tmr0, false, s.t0Inhibit - 1#2, rfl⟩
  · split
    · exact .refl s
    · exact countTmr0_change s

/-- Several instruction cycles of Timer0. -/
theorem timerCycles_change (n : Nat) (s : State) : TimerChange s (timerCycles n s) := by
  induction n generalizing s with
  | zero => exact .refl s
  | succ n ih => exact .trans (timerCycle_change s) (ih _)

/-- The passing of instruction cycles changes Timer0 only. -/
theorem passCycles_change (n : Nat) (s : State) : TimerChange s (passCycles n s) := by
  unfold passCycles
  split
  · exact .refl s
  · exact timerCycles_change n s

/-- Under the policy `draw` the passing of cycles changes nothing. -/
theorem passCycles_draw (n : Nat) (s : State) (h : s.cfg.tmr0Policy = .draw) :
    passCycles n s = s := by
  simp [passCycles, h]

/-- Under the policy `cycle` it is Timer0's cycles. -/
theorem passCycles_cycle (n : Nat) (s : State) (h : s.cfg.tmr0Policy = .cycle) :
    passCycles n s = timerCycles n s := by
  simp [passCycles, h]

/-! ### The data EEPROM -/

/-- What the data EEPROM's control can change in an instruction: EECON1, EEDATA, the captured address and
data, the unlock state, which it leaves or clears, and the free values drawn. -/
def EepromChange (s t : State) : Prop :=
  ∃ (e : BitVec 5) (d : Byte) (u : BitVec 2) (x : BitVec 6) (y : Byte) (n : Nat),
    t = { s with
      eecon1 := e, eedata := d, eeUnlock := u, eeAddr := x, eeData := y, draws := n } ∧
    (u = s.eeUnlock ∨ u = 0#2)

/-- The count of the unlock sequence never passes its five instructions. -/
theorem sequenceAfter_le (i : Instr) (s : State) : (sequenceAfter i s).toNat ≤ 5 := by
  unfold sequenceAfter
  split_ifs <;> decide

/-- A data EEPROM read, after which RD is clear. -/
theorem eeRead_change (s : State) : EepromChange s (eeRead s) ∧ (eeRead s).rd = false :=
  ⟨⟨_, _, s.eeUnlock, s.eeAddr, s.eeData, s.draws, rfl, .inl rfl⟩, getLsbD_putBit s.eecon1 0 0 false⟩

/-- The start of a data EEPROM write, which leaves RD alone. -/
theorem eeWriteStart_change (s : State) :
    EepromChange s (eeWriteStart s) ∧ (eeWriteStart s).rd = s.rd := by
  refine ⟨⟨_, s.eedata, _, _, _, _, rfl, ?_⟩, getLsbD_putBit s.eecon1 1 0 _⟩
  cases eeStarts s
  · exact .inl rfl
  · exact .inr rfl

/-- Bit 0 of EECON1 after a write: RD can be set, not cleared (R258). -/
theorem eecon1After_rd (v : Byte) (old : BitVec 5) :
    (eecon1After v old).getLsbD 0 = (old.getLsbD 0 || v.getLsbD 0) := by
  revert v old; decide

/-- A write to EECON1, after which RD is clear if it was clear before. -/
theorem writeEecon1_change (v : Byte) (s : State) :
    EepromChange s (writeEecon1 v s) ∧ (s.rd = false → (writeEecon1 v s).rd = false) := by
  have trans : ∀ {a b c : State}, EepromChange a b → EepromChange b c → EepromChange a c := by
    rintro a b c ⟨_, _, u, _, _, _, rfl, hu⟩ ⟨_, _, _, _, _, _, rfl, hu'⟩
    refine ⟨_, _, _, _, _, _, rfl, ?_⟩
    rcases hu' with rfl | rfl
    · exact hu
    · exact .inr rfl
  have h₁ : EepromChange s { s with eecon1 := eecon1After v s.eecon1 } :=
    ⟨_, s.eedata, s.eeUnlock, s.eeAddr, s.eeData, s.draws, rfl, .inl rfl⟩
  simp only [writeEecon1]
  generalize hs₁ : { s with eecon1 := eecon1After v s.eecon1 } = s₁ at h₁ ⊢
  have hrd : v.getLsbD 0 = false → s.rd = false → s₁.rd = false := by
    intro hv hr
    subst hs₁
    show (eecon1After v s.eecon1).getLsbD 0 = false
    rw [eecon1After_rd, hv]
    simpa [State.rd] using hr
  obtain ⟨h₂, hrd₂⟩ : EepromChange s (if v.getLsbD 0 then eeRead s₁ else s₁) ∧
      (s.rd = false → (if v.getLsbD 0 then eeRead s₁ else s₁).rd = false) := by
    cases hv : v.getLsbD 0
    · exact ⟨h₁, hrd hv⟩
    · exact ⟨trans h₁ (eeRead_change s₁).1, fun _ => (eeRead_change s₁).2⟩
  split
  · exact ⟨trans h₂ (eeWriteStart_change _).1, fun h => (eeWriteStart_change _).2.trans (hrd₂ h)⟩
  · exact ⟨h₂, hrd₂⟩

end Sys2Proof.Machine
end

