-- ==== Sys2Proof/Laws/PerInstr.lean ====
section
/-! SUPPORT. For every instruction: a row of the opcode table with its mnemonic applies to its word
(30_encoding.md rules R125, R126). -/

namespace Sys2Proof.Laws.EncodingRow

/-- Some row of the opcode table that bears the mnemonic of `i` applies to the word of `i`. -/
def Statement (i : Instr) : Prop :=
  i.wellFormed = true → ∃ r ∈ opcodeTable, r.mnemonic = i.mnemonic ∧ r.applies (encode i) = true

/-- A row of the table that applies gives the statement. -/
theorem of_row {i : Instr} (n : Nat) (hn : n < opcodeTable.length)
    (hm : opcodeTable[n].mnemonic = i.mnemonic) (h : opcodeTable[n].applies (encode i) = true) :
    Statement i :=
  fun _ => ⟨opcodeTable[n], List.getElem_mem hn, hm, h⟩

theorem addwf (d : Dest) (f : BitVec 7) : Statement (.addwf d f) :=
  of_row 0 (by decide) rfl <| by
    cases d <;> (revert f; decide)

theorem andwf (d : Dest) (f : BitVec 7) : Statement (.andwf d f) :=
  of_row 1 (by decide) rfl <| by
    cases d <;> (revert f; decide)

theorem clrf (f : BitVec 7) : Statement (.clrf f) :=
  of_row 2 (by decide) rfl <| by
    revert f; decide

theorem clrw : Statement .clrw :=
  of_row 3 (by decide) rfl (by decide)

theorem comf (d : Dest) (f : BitVec 7) : Statement (.comf d f) :=
  of_row 4 (by decide) rfl <| by
    cases d <;> (revert f; decide)

theorem decf (d : Dest) (f : BitVec 7) : Statement (.decf d f) :=
  of_row 5 (by decide) rfl <| by
    cases d <;> (revert f; decide)

theorem decfsz (d : Dest) (f : BitVec 7) : Statement (.decfsz d f) :=
  of_row 6 (by decide) rfl <| by
    cases d <;> (revert f; decide)

theorem incf (d : Dest) (f : BitVec 7) : Statement (.incf d f) :=
  of_row 7 (by decide) rfl <| by
    cases d <;> (revert f; decide)

theorem incfsz (d : Dest) (f : BitVec 7) : Statement (.incfsz d f) :=
  of_row 8 (by decide) rfl <| by
    cases d <;> (revert f; decide)

theorem iorwf (d : Dest) (f : BitVec 7) : Statement (.iorwf d f) :=
  of_row 9 (by decide) rfl <| by
    cases d <;> (revert f; decide)

theorem movf (d : Dest) (f : BitVec 7) : Statement (.movf d f) :=
  of_row 10 (by decide) rfl <| by
    cases d <;> (revert f; decide)

theorem movwf (f : BitVec 7) : Statement (.movwf f) :=
  of_row 11 (by decide) rfl <| by
    revert f; decide

theorem nop : Statement .nop :=
  of_row 12 (by decide) rfl (by decide)

theorem rlf (d : Dest) (f : BitVec 7) : Statement (.rlf d f) :=
  of_row 13 (by decide) rfl <| by
    cases d <;> (revert f; decide)

theorem rrf (d : Dest) (f : BitVec 7) : Statement (.rrf d f) :=
  of_row 14 (by decide) rfl <| by
    cases d <;> (revert f; decide)

theorem subwf (d : Dest) (f : BitVec 7) : Statement (.subwf d f) :=
  of_row 15 (by decide) rfl <| by
    cases d <;> (revert f; decide)

theorem swapf (d : Dest) (f : BitVec 7) : Statement (.swapf d f) :=
  of_row 16 (by decide) rfl <| by
    cases d <;> (revert f; decide)

theorem xorwf (d : Dest) (f : BitVec 7) : Statement (.xorwf d f) :=
  of_row 17 (by decide) rfl <| by
    cases d <;> (revert f; decide)

theorem bcf (f : BitVec 7) (b : BitVec 3) : Statement (.bcf f b) :=
  of_row 18 (by decide) rfl <| by
    revert f b; decide

theorem bsf (f : BitVec 7) (b : BitVec 3) : Statement (.bsf f b) :=
  of_row 19 (by decide) rfl <| by
    revert f b; decide

theorem btfsc (f : BitVec 7) (b : BitVec 3) : Statement (.btfsc f b) :=
  of_row 20 (by decide) rfl <| by
    revert f b; decide

theorem btfss (f : BitVec 7) (b : BitVec 3) : Statement (.btfss f b) :=
  of_row 21 (by decide) rfl <| by
    revert f b; decide

theorem addlw (k : Byte) : Statement (.addlw k) :=
  of_row 22 (by decide) rfl <| by
    revert k; decide

theorem andlw (k : Byte) : Statement (.andlw k) :=
  of_row 23 (by decide) rfl <| by
    revert k; decide

theorem call (k : BitVec 11) : Statement (.call k) :=
  of_row 24 (by decide) rfl <| by
    revert k; decide

theorem clrwdt : Statement .clrwdt :=
  of_row 25 (by decide) rfl (by decide)

theorem goto (k : BitVec 11) : Statement (.goto k) :=
  of_row 26 (by decide) rfl <| by
    revert k; decide

theorem iorlw (k : Byte) : Statement (.iorlw k) :=
  of_row 27 (by decide) rfl <| by
    revert k; decide

theorem movlw (k : Byte) : Statement (.movlw k) :=
  of_row 28 (by decide) rfl <| by
    revert k; decide

theorem retfie : Statement .retfie :=
  of_row 29 (by decide) rfl (by decide)

theorem retlw (k : Byte) : Statement (.retlw k) :=
  of_row 30 (by decide) rfl <| by
    revert k; decide

theorem ret : Statement .ret :=
  of_row 31 (by decide) rfl (by decide)

theorem sleep : Statement .sleep :=
  of_row 32 (by decide) rfl (by decide)

theorem sublw (k : Byte) : Statement (.sublw k) :=
  of_row 33 (by decide) rfl <| by
    revert k; decide

theorem xorlw (k : Byte) : Statement (.xorlw k) :=
  of_row 34 (by decide) rfl <| by
    revert k; decide

theorem option : Statement .option :=
  of_row 35 (by decide) rfl (by decide)

theorem tris (f : BitVec 3) : Statement (.tris f) := by
  revert f; unfold Statement; decide

end Sys2Proof.Laws.EncodingRow
end

