-- ==== Sys2Proof/Laws/Step.lean ====
section
/-! SUPPORT. Everything a step can do, the induction over the agent steps of one boundary, and the shapes
of the instructions. -/

namespace Sys2Proof.Machine

/-! ### The agents -/

/-- What holds before the agents act, and is kept by each agent step and each wake-up, holds after. -/
theorem agentSteps_induction (P : State → Prop) (hwake : ∀ s, P s → P (wakeIfDue s))
    (hagent : ∀ e s, P s → P (agentStep e s)) (es : List AgentStep) (s : State) (h : P s) :
    P (agentSteps es s) := by
  induction es generalizing s with
  | nil => exact hwake s h
  | cons e es ih => exact ih _ (hagent e _ (hwake s h))

/-- A wake-up leaves the schedule alone. -/
theorem wakeIfDue_schedule (s : State) : (wakeIfDue s).schedule = s.schedule := by
  unfold wakeIfDue
  split <;> rfl

/-- A change of Timer0 leaves the schedule alone. -/
theorem TimerChange.schedule {s t : State} (h : TimerChange s t) : t.schedule = s.schedule := by
  obtain ⟨p, v, b, h, rfl⟩ := h
  rfl

/-- No agent step touches the schedule. -/
theorem agentStep_schedule (e : AgentStep) (s : State) :
    (agentStep e s).schedule = s.schedule := by
  cases e <;> simp only [agentStep, agentTmr0, agentT0cki, agentPrescaler, agentWdtTick,
    agentWdtTimeout, agentIntEdge, agentPortBChange, eeWriteDone]
  case tmr0Tick => split; exacts [(incTmr0_change _).schedule, rfl]
  case t0ckiEdge => split; exacts [(countTmr0_change _).schedule, rfl]
  case mclr => rfl
  all_goals first | (split <;> rfl) | (split; (split <;> rfl); rfl)

/-- With nothing scheduled the agents do nothing but let a sleeping core wake. -/
theorem runAgents_nil (s : State) (h : s.schedule = []) : runAgents s = wakeIfDue s := by
  have hs : { s with schedule := s.schedule.tail } = s := by rw [h]; cases s; cases h; rfl
  rw [runAgents, hs, h]
  rfl

/-- An awake core does not wake. -/
theorem wakeIfDue_awake (s : State) (h : s.asleep = false) : wakeIfDue s = s := by
  simp [wakeIfDue, h]

/-! ### A step -/

/-- Everything a step that answers a next state can be: the core sleeps on, an interrupt entry, or one
instruction. -/
theorem step_cases {s₀ t : State} (h : step s₀ = .next t) :
    ((runAgents s₀).asleep = true ∧ t = runAgents s₀) ∨
    ((runAgents s₀).asleep = false ∧ interruptDue (runAgents s₀) = true ∧
      t = interruptStep (runAgents s₀)) ∨
    ((runAgents s₀).asleep = false ∧ interruptDue (runAgents s₀) = false ∧
      ∃ i u, decode (fetch (runAgents s₀)) = .ok i ∧
        exec i (countSequence i (runAgents s₀)) = .next u ∧
        t = endStep (runAgents s₀) u) := by
  simp only [step] at h
  generalize runAgents s₀ = s at h ⊢
  cases hs : s.asleep
  · rw [hs] at h
    cases hi : interruptDue s
    · rw [hi] at h
      refine .inr (.inr ⟨rfl, rfl, ?_⟩)
      cases hd : decode (fetch s) with
      | error e => simp [hd] at h
      | ok i =>
        simp only [hd] at h
        cases hx : exec i (countSequence i s) with
        | next u => simp only [hx] at h; cases h; exact ⟨i, u, rfl, hx, rfl⟩
        | fault r => cases r
        | refused r => simp [hx] at h
    · rw [hi] at h; cases h; exact .inr (.inl ⟨rfl, rfl, rfl⟩)
  · rw [hs] at h; cases h; exact .inl ⟨rfl, rfl⟩

/-- The step of an awake core with no interrupt due runs the decoded instruction, counted in the unlock
sequence (R11; log 12). -/
theorem step_exec {s₀ : State} {i : Instr} (ha : (runAgents s₀).asleep = false)
    (hi : interruptDue (runAgents s₀) = false) (hd : decode (fetch (runAgents s₀)) = .ok i) :
    step s₀ =
      match exec i (countSequence i (runAgents s₀)) with
      | .next t => .next (endStep (runAgents s₀) t)
      | .fault r => .fault r
      | .refused r => .refused r := by
  cases hx : exec i (countSequence i (runAgents s₀)) <;> simp [step, ha, hi, hd, hx]

/-! ### The shapes of the instructions -/

/-- Everything an instruction that answers a next state can be, by shape; control flow, the watchdog,
sleep and the compatibility instructions stand by themselves. -/
inductive Shape (i : Instr) (s t : State) : Prop where
  /-- A file register operation that neither skips nor branches. -/
  | file (d : Dest) (f : BitVec 7) (alu : Byte → AluOut)
      (h : t = fileOperate d f alu plainMove s) (ha : storeAddress i s = destAddress d f s)
      (hw : writesW i = (d == .w))
      (hf : ∀ v, (alu v).flags.z.isSome = affectsZ i ∧ (alu v).flags.dc.isSome = affectsDC i ∧
        (alu v).flags.c.isSome = affectsC i)
  /-- DECFSZ or INCFSZ. -/
  | counter (d : Dest) (f : BitVec 7) (r : Byte)
      (h : t = storeResult false d (ea f s) r (skipIfZero r (afterRead (ea f s) s)))
      (ha : storeAddress i s = destAddress d f s) (hw : writesW i = (d == .w))
      (hp : d = .f → locOf (ea f s) ≠ .pcl)
  /-- BTFSC or BTFSS. -/
  | test (skipOn : Bool) (f : BitVec 7) (b : BitVec 3) (h : t = bitTest skipOn f b s)
  /-- An operation on W alone. -/
  | literal (y : AluOut) (h : t = literalOperate y s) (hw : writesW i = true)
      (hf : y.flags.z.isSome = affectsZ i ∧ y.flags.dc.isSome = affectsDC i ∧
        y.flags.c.isSome = affectsC i)
  /-- NOP, CALL, GOTO, the returns, CLRWDT, SLEEP, OPTION, TRIS. -/
  | other (h : i = .nop ∨ (∃ k, i = .call k) ∨ (∃ k, i = .goto k) ∨ i = .ret ∨
      (∃ k, i = .retlw k) ∨ i = .retfie ∨ i = .clrwdt ∨ i = .sleep ∨ i = .option ∨ ∃ f, i = .tris f)

/-- Every instruction that answers a next state has one of the shapes. -/
theorem exec_shape {i : Instr} {s t : State} (h : exec i s = .next t) : Shape i s t := by
  cases i
  case addwf d f | andwf d f | comf d f | decf d f | incf d f | iorwf d f | movf d f | rlf d f | rrf d f
      | subwf d f | swapf d f | xorwf d f =>
    cases h; exact .file d f _ rfl rfl rfl fun _ => ⟨rfl, rfl, rfl⟩
  case clrf f | movwf f | bcf f b | bsf f b =>
    cases h; exact .file .f f _ rfl rfl rfl fun _ => ⟨rfl, rfl, rfl⟩
  case decfsz d f | incfsz d f =>
    simp only [exec, execDecfsz, execIncfsz] at h
    split at h
    · cases h
    · rename_i hp
      cases h
      exact .counter d f _ (fileOperate_plain d f _ skipIfZero s _ rfl) rfl rfl
        fun hd hl => hp ⟨hd, hl⟩
  case btfsc f b | btfss f b => cases h; exact .test _ f b rfl
  case clrw | addlw k | andlw k | iorlw k | movlw k | sublw k | xorlw k =>
    cases h; exact .literal _ rfl rfl ⟨rfl, rfl, rfl⟩
  all_goals exact .other (by simp)

/-- The location of the file destination. -/
theorem storeLoc_file {i : Instr} {f : BitVec 7} {s : State}
    (h : storeAddress i s = destAddress .f f s) : storeLoc i s = some (locOf (ea f s)) := by
  simp [storeLoc, h, destAddress]

/-- A component of the state that only a write of its own location, or an instruction that stands by
itself, can change is left alone by every other instruction. -/
theorem exec_frame {α : Type} (g : State → α) {i : Instr} {s t : State} (h : exec i s = .next t)
    (hloc : ∀ affects a v u, storeLoc i s = some (locOf a) →
      g (writeLoc affects (locOf a) v u) = g u)
    (hother : (i = .nop ∨ (∃ k, i = .call k) ∨ (∃ k, i = .goto k) ∨ i = .ret ∨
      (∃ k, i = .retlw k) ∨ i = .retfie ∨ i = .clrwdt ∨ i = .sleep ∨ i = .option ∨
      ∃ f, i = .tris f) → g t = g s)
    (hw : ∀ (u : State) v, g { u with w := v } = g u)
    (hstatus : ∀ (u : State) v, g { u with status := v } = g u)
    (hpc : ∀ (u : State) v c, g { u with pc := v, cycles := c } = g u)
    (hread : ∀ a u, g (afterRead a u) = g u) : g t = g s := by
  have hstore : ∀ affects d a r u, (d = .f → storeLoc i s = some (locOf a)) →
      g (storeResult affects d a r u) = g u := fun affects d a r u hd => by
    cases d
    · exact hw _ _
    · exact hloc _ _ _ _ (hd rfl)
  cases exec_shape h with
  | file d f alu h ha =>
    subst h
    refine (hstatus _ _).trans ((hstore _ _ _ _ _ fun hd => ?_).trans ((hpc _ _ _).trans (hread _ _)))
    subst hd; exact storeLoc_file ha
  | counter d f r h ha =>
    subst h
    refine (hstore _ _ _ _ _ fun hd => ?_).trans (.trans ?_ (hread (ea f s) s))
    · subst hd; exact storeLoc_file ha
    · unfold skipIfZero; split <;> exact hpc _ _ _
  | test skipOn f b h =>
    subst h
    unfold bitTest
    dsimp only
    split <;> exact (hpc _ _ _).trans (hread _ _)
  | literal y h =>
    subst h
    exact (hstatus { advance s with w := y.result } _).trans ((hw (advance s) _).trans (hpc s _ _))
  | other h => exact hother h

/-! ### The loaded word -/

/-- After withFetchWord the core is awake when it fetches, no agent acts first, and no interrupt is due. -/
theorem withFetchWord_quiet (s : State) (nbits w : Nat) :
    runAgents (s.withFetchWord nbits w) =
      { s.withFetchWord nbits w with schedule := (s.withFetchWord nbits w).schedule.tail } ∧
    (runAgents (s.withFetchWord nbits w)).asleep = false ∧
    interruptDue (runAgents (s.withFetchWord nbits w)) = false := by
  have hhead : (s.withFetchWord nbits w).schedule.headD [] = [] := by
    show (if s.schedule.headD [] = [] then s.schedule else [] :: s.schedule).headD [] = []
    split
    · assumption
    · rfl
  have hrun : runAgents (s.withFetchWord nbits w) =
      { s.withFetchWord nbits w with schedule := (s.withFetchWord nbits w).schedule.tail } := by
    rw [runAgents, hhead]
    exact wakeIfDue_awake _ rfl
  refine ⟨hrun, by rw [hrun]; rfl, ?_⟩
  rw [hrun]
  show (s.gie && irq s && !(s.deferIrq || (s.gie && irq s))) = false
  cases s.gie <;> cases irq s <;> simp

/-- The very next step fetches the loaded word. -/
theorem withFetchWord_fetch (s : State) (nbits w : Nat) (h : s.prog.wf = true) :
    fetch (runAgents (s.withFetchWord nbits w)) = BitVec.ofNat 14 w := by
  rw [(withFetchWord_quiet s nbits w).1]
  exact Memory.read_write_same _ _ _ h

end Sys2Proof.Machine
end

