-- ==== Sys2Proof/Tests/Slice0.lean ====
section
/-! SUPPORT. Small tests against the worked examples and vectors of spec/95_test_vectors.md, the
ill-formed terms WellFormed refuses, and one witness per statement that has hypotheses. -/

namespace Sys2Proof.Tests

open Sys2Proof Sys2Proof.Machine

/-- The state a result answers, if it answers one. -/
def after (r : Result) : Option State :=
  match r with
  | .next t => some t
  | .fault _ => none
  | .refused _ => none

/-- What a result refuses, if it refuses. -/
def refusal (r : Result) : Option Refusal :=
  match r with
  | .next _ => none
  | .fault _ => none
  | .refused q => some q

/-- The state the vectors of spec/95 start from: at 0x0100, Bank 0, register 0x0C holding `reg`, W
holding `w`, and the flags Z, DC, C as given. -/
def start (w reg : Byte) (flags : BitVec 3) : State :=
  { State.reset with
    pc := 0x0100#13
    w := w
    status := (0b00011#5 ++ flags : BitVec 8)
    ram := Memory.write [] 0x0C reg }

/-- W, register 0x0C, Z:DC:C and the program counter. -/
def shown (r : Result) : Option (Byte × Byte × BitVec 3 × ProgAddr) :=
  (after r).map fun t => (t.w, t.ram.read 0x0C, t.status.extractLsb' 0 3, t.pc)

/-! ### Well-formedness -/

theorem test_tris_4_is_ill_formed : (Instr.tris 4#3).wellFormed = false := by decide
theorem test_tris_0_is_ill_formed : (Instr.tris 0#3).wellFormed = false := by decide
theorem test_tris_7_is_well_formed : (Instr.tris 7#3).wellFormed = true := by decide
theorem test_tris_4_is_refused : refusal (exec (.tris 4#3) State.reset) = some (.illFormedTris 4#3) := by
  decide

/-! ### Decoding: words written out bit by bit from the encodings of 30_encoding.md R118 -/

theorem test_decode_byte_oriented :
    decode 0b00_0111_1_0000010#14 = .ok (.addwf .f 0x02#7) ∧
    decode 0b00_0101_0_0001100#14 = .ok (.andwf .w 0x0C#7) ∧
    decode 0b00_0001_1_0001100#14 = .ok (.clrf 0x0C#7) ∧
    decode 0b00_0001_0_1111111#14 = .ok .clrw ∧
    decode 0b00_1001_0_0001100#14 = .ok (.comf .w 0x0C#7) ∧
    decode 0b00_0011_1_0001100#14 = .ok (.decf .f 0x0C#7) ∧
    decode 0b00_1011_1_0001100#14 = .ok (.decfsz .f 0x0C#7) ∧
    decode 0b00_1010_1_0001100#14 = .ok (.incf .f 0x0C#7) ∧
    decode 0b00_1111_1_0001100#14 = .ok (.incfsz .f 0x0C#7) := by decide

theorem test_decode_byte_oriented_rest :
    decode 0b00_0100_0_0001100#14 = .ok (.iorwf .w 0x0C#7) ∧
    decode 0b00_1000_0_0000100#14 = .ok (.movf .w 0x04#7) ∧
    decode 0b00_0000_1_1111111#14 = .ok (.movwf 0x7F#7) ∧
    decode 0b00_0000_0_1100000#14 = .ok .nop ∧
    decode 0b00_1101_0_0001100#14 = .ok (.rlf .w 0x0C#7) ∧
    decode 0b00_1100_0_0001100#14 = .ok (.rrf .w 0x0C#7) ∧
    decode 0b00_0010_1_0001100#14 = .ok (.subwf .f 0x0C#7) ∧
    decode 0b00_1110_0_0001100#14 = .ok (.swapf .w 0x0C#7) ∧
    decode 0b00_0110_1_0001100#14 = .ok (.xorwf .f 0x0C#7) := by decide

theorem test_decode_bit_oriented :
    decode 0b01_00_111_0001100#14 = .ok (.bcf 0x0C#7 7#3) ∧
    decode 0b01_01_101_0000011#14 = .ok (.bsf 0x03#7 5#3) ∧
    decode 0b01_10_001_0001100#14 = .ok (.btfsc 0x0C#7 1#3) ∧
    decode 0b01_11_111_0001100#14 = .ok (.btfss 0x0C#7 7#3) := by decide

theorem test_decode_literal_and_control :
    decode 0b11_1111_00010101#14 = .ok (.addlw 0x15#8) ∧
    decode 0b11_1001_01011111#14 = .ok (.andlw 0x5F#8) ∧
    decode 0b10_0_00100100011#14 = .ok (.call 0x123#11) ∧
    decode 0b00_0000_01100100#14 = .ok .clrwdt ∧
    decode 0b10_1_11111111111#14 = .ok (.goto 0x7FF#11) ∧
    decode 0b11_1000_00110101#14 = .ok (.iorlw 0x35#8) ∧
    decode 0b11_0011_01011010#14 = .ok (.movlw 0x5A#8) ∧
    decode 0b00_0000_00001001#14 = .ok .retfie ∧
    decode 0b11_0111_01000001#14 = .ok (.retlw 0x41#8) ∧
    decode 0b00_0000_00001000#14 = .ok .ret ∧
    decode 0b00_0000_01100011#14 = .ok .sleep ∧
    decode 0b11_1101_00000010#14 = .ok (.sublw 0x02#8) ∧
    decode 0b11_1010_10101111#14 = .ok (.xorlw 0xAF#8) := by decide

theorem test_decode_option_tris :
    decode 0b00_0000_01100010#14 = .ok .option ∧
    decode 0b00_0000_01100101#14 = .ok (.tris 5#3) ∧
    decode 0b00_0000_01100110#14 = .ok (.tris 6#3) ∧
    decode 0b00_0000_01100111#14 = .ok (.tris 7#3) := by decide

theorem test_decode_reserved :
    decode 0x0001#14 = .error (.reserved 0x0001#14) ∧
    decode 0x007F#14 = .error (.reserved 0x007F#14) ∧
    decode 0x0061#14 = .error (.reserved 0x0061#14) ∧
    decode 0x3B00#14 = .error (.reserved 0x3B00#14) ∧
    decode 0x3BFF#14 = .error (.reserved 0x3BFF#14) ∧
    decodeNat 0x4000 = .error (.tooWide 0x4000) := by decide

/-! ### Byte-oriented operations (spec/95 2.2 and part 1) -/

theorem test_addwf_wraps : shown (exec (.addwf .f 0x0C#7) (start 0x01 0xFF 0)) =
    some (0x01, 0x00, 0b111, 0x0101) := by decide
theorem test_addwf_half_carry : shown (exec (.addwf .w 0x0C#7) (start 0x08 0x08 0)) =
    some (0x10, 0x08, 0b010, 0x0101) := by decide
theorem test_andwf_zero : shown (exec (.andwf .w 0x0C#7) (start 0x0F 0xF0 0b011)) =
    some (0x00, 0xF0, 0b111, 0x0101) := by decide
theorem test_clrf_status :
    (after (exec (.clrf 0x03#7) { start 0 0 0b011 with status := 0b00110011 })).map (·.status) =
      some 0b00010111 := by decide
theorem test_clrf_clears : shown (exec (.clrf 0x0C#7) (start 0x77 0x5A 0b011)) =
    some (0x77, 0x00, 0b111, 0x0101) := by decide
theorem test_clrw_clears : shown (exec .clrw (start 0x5A 0x11 0)) =
    some (0x00, 0x11, 0b100, 0x0101) := by decide
theorem test_comf : shown (exec (.comf .w 0x0C#7) (start 0x00 0x13 0b100)) =
    some (0xEC, 0x13, 0b000, 0x0101) := by decide
theorem test_decf_wraps : shown (exec (.decf .f 0x0C#7) (start 0 0x00 0b101)) =
    some (0, 0xFF, 0b001, 0x0101) := by decide
theorem test_decfsz_skips : shown (exec (.decfsz .f 0x0C#7) (start 0 0x01 0)) =
    some (0, 0x00, 0, 0x0102) := by decide
theorem test_decfsz_pcl_refused :
    refusal (exec (.decfsz .f 0x02#7) State.reset) = some (.reserved 0x0B82#14) := by decide
theorem test_incf_wraps : shown (exec (.incf .f 0x0C#7) (start 0 0xFF 0)) =
    some (0, 0x00, 0b100, 0x0101) := by decide
theorem test_incfsz_skips : shown (exec (.incfsz .f 0x0C#7) (start 0 0xFF 0)) =
    some (0, 0x00, 0, 0x0102) := by decide
theorem test_incfsz_pcl_through_fsr_refused :
    refusal (exec (.incfsz .f 0x00#7) { State.reset with fsr := 0x82 }) =
      some (.reserved 0x0F80#14) := by decide
theorem test_iorwf : shown (exec (.iorwf .w 0x0C#7) (start 0x91 0x13 0b100)) =
    some (0x93, 0x13, 0, 0x0101) := by decide
theorem test_movf_pcl : shown (exec (.movf .w 0x02#7) { start 0 0 0 with pc := 0x0123 }) =
    some (0x24, 0, 0, 0x0124) := by decide
theorem test_movf_zero : shown (exec (.movf .f 0x0C#7) (start 0x55 0x00 0)) =
    some (0x55, 0x00, 0b100, 0x0101) := by decide
theorem test_movwf_pcl :
    (after (exec (.movwf 0x02#7) { start 0x34 0 0 with pclath := 0x02 })).map
      (fun t => (t.pc, t.pclath, t.cycles)) = some (0x0234, 0x02, 2) := by decide
theorem test_movwf_indirect_bank1 :
    (after (exec (.movwf 0x00#7) { start 0x99 0 0 with fsr := 0xA0 })).map
      (fun t => t.ram.read 0x20) = some 0x99 := by decide
theorem test_nop : shown (exec .nop { start 1 2 0b010 with pc := 0x1FFF }) =
    some (1, 2, 0b010, 0x0000) := by decide
theorem test_rlf : shown (exec (.rlf .w 0x0C#7) (start 0 0b11100110 0)) =
    some (0b11001100, 0b11100110, 0b001, 0x0101) := by decide
theorem test_rlf_carry_in : shown (exec (.rlf .f 0x0C#7) (start 0 0x80 0b001)) =
    some (0, 0x01, 0b001, 0x0101) := by decide
theorem test_rrf : shown (exec (.rrf .w 0x0C#7) (start 0 0b11100110 0)) =
    some (0b01110011, 0b11100110, 0b000, 0x0101) := by decide
theorem test_rrf_carry_in : shown (exec (.rrf .f 0x0C#7) (start 0 0x01 0b001)) =
    some (0, 0x80, 0b001, 0x0101) := by decide
theorem test_subwf_negative : shown (exec (.subwf .f 0x0C#7) (start 2 1 0b111)) =
    some (2, 0xFF, 0b000, 0x0101) := by decide
theorem test_subwf_borrow_low : shown (exec (.subwf .w 0x0C#7) (start 0x7F 0x80 0)) =
    some (0x01, 0x80, 0b001, 0x0101) := by decide
theorem test_swapf : shown (exec (.swapf .w 0x0C#7) (start 0 0xA5 0b100)) =
    some (0x5A, 0xA5, 0b100, 0x0101) := by decide
theorem test_xorwf : shown (exec (.xorwf .f 0x0C#7) (start 0xB5 0xAF 0b100)) =
    some (0xB5, 0x1A, 0, 0x0101) := by decide

/-! ### Bit-oriented operations (spec/95 2.3) -/

theorem test_bcf : shown (exec (.bcf 0x0C#7 7#3) (start 0 0xC7 0)) =
    some (0, 0x47, 0, 0x0101) := by decide
theorem test_bcf_selects_bank0 :
    (after (exec (.bcf 0x03#7 5#3) { start 0 0 0b101 with status := 0b00111101 })).map (·.status) =
      some 0b00011101 := by decide
theorem test_bsf_time_out_not_writable :
    (after (exec (.bsf 0x03#7 4#3) { start 0 0 0 with status := 0 })).map (·.status) = some 0 := by
  decide
theorem test_bsf_carry :
    (after (exec (.bsf 0x03#7 0#3) (start 0 0 0))).map (·.status) = some 0b00011001 := by decide
theorem test_btfsc_wraps : shown (exec (.btfsc 0x0C#7 1#3) { start 0 0 0 with pc := 0x1FFF }) =
    some (0, 0, 0, 0x0001) := by decide
theorem test_btfsc_unimplemented : shown (exec (.btfsc 0x40#7 0#3) (start 0 0 0)) =
    some (0, 0, 0, 0x0102) := by decide
theorem test_btfss_bit7 : shown (exec (.btfss 0x0C#7 7#3) (start 0 0x80 0)) =
    some (0, 0x80, 0, 0x0102) := by decide
theorem test_btfss_clear : shown (exec (.btfss 0x0C#7 1#3) (start 0 0x00 0)) =
    some (0, 0x00, 0, 0x0101) := by decide

/-! ### Literal and control operations (spec/95 2.4) -/

theorem test_addlw : shown (exec (.addlw 0xFF#8) (start 0x01 0 0)) =
    some (0x00, 0, 0b111, 0x0101) := by decide
theorem test_andlw : shown (exec (.andlw 0x5F#8) (start 0xA3 0 0b111)) =
    some (0x03, 0, 0b011, 0x0101) := by decide
theorem test_call_pushes_and_wraps :
    (after (exec (.call 0x000#11) { start 0 0 0 with pc := 0x1FFF, sp := 0 })).map
      (fun t => (t.pc, t.stackAt 0, t.sp)) = some (0x0000, 0x0000, 1) := by decide
theorem test_call_target :
    (after (exec (.call 0x123#11) { start 0 0 0 with pclath := 0x08 })).map
      (fun t => (t.pc, t.stackAt 0, t.cycles)) = some (0x0923, 0x0101, 2) := by decide
theorem test_clrwdt :
    (after (exec .clrwdt { start 0 0 0 with status := 0, wdt := 9, psc := 5 })).map
      (fun t => (t.wdt, t.psc, t.status)) = some (0, 0, 0b00011000) := by decide
theorem test_goto : (after (exec (.goto 0x7FF#11) { start 0 0 0 with pclath := 0x1F })).map (·.pc) =
    some 0x1FFF := by decide
theorem test_goto_low_pclath_ignored :
    (after (exec (.goto 0x7FF#11) { start 0 0 0 with pclath := 0x07 })).map (·.pc) =
      some 0x07FF := by decide
theorem test_iorlw : shown (exec (.iorlw 0x35#8) (start 0x9A 0 0b100)) =
    some (0xBF, 0, 0, 0x0101) := by decide
theorem test_movlw : shown (exec (.movlw 0x5A#8) (start 0 0 0b100)) =
    some (0x5A, 0, 0b100, 0x0101) := by decide
theorem test_retfie :
    (after (exec .retfie (push 0x0155 (start 0 0 0)))).map
      (fun t => (t.pc, t.sp, t.intcon)) = some (0x0155, 0, 0x80) := by decide
theorem test_retlw :
    (after (exec (.retlw 0x41#8) (push 0x0155 (start 0 0 0b010)))).map
      (fun t => (t.w, t.pc, t.status)) = some (0x41, 0x0155, 0b00011010) := by decide
theorem test_return :
    (after (exec .ret (push 0x0155 (start 0 0 0)))).map (fun t => (t.pc, t.sp)) =
      some (0x0155, 0) := by decide
theorem test_sleep :
    (after (exec .sleep { start 0 0 0 with status := 0x08, wdt := 9, psc := 5 })).map
      (fun t => (t.status, t.wdt, t.psc, t.asleep, t.pc)) =
      some (0x10, 0, 0, true, 0x0101) := by decide
theorem test_sublw_negative : shown (exec (.sublw 0x02#8) (start 3 0 0b111)) =
    some (0xFF, 0, 0b000, 0x0101) := by decide
theorem test_sublw_zero_minus_zero : shown (exec (.sublw 0x00#8) (start 0 0 0)) =
    some (0x00, 0, 0b111, 0x0101) := by decide
theorem test_xorlw : shown (exec (.xorlw 0xAF#8) (start 0xB5 0 0b100)) =
    some (0x1A, 0, 0, 0x0101) := by decide
theorem test_option : (after (exec .option (start 0x4F 0 0))).map (·.optionReg) = some 0x4F := by
  decide
theorem test_tris5 : (after (exec (.tris 5#3) (start 0xF0 0 0))).map
    (fun t => (t.trisA, t.trisB)) = some (0x10, 0xFF) := by decide
theorem test_tris6 : (after (exec (.tris 6#3) (start 0xF0 0 0))).map
    (fun t => (t.trisA, t.trisB)) = some (0x1F, 0xF0) := by decide

/-! ### Steps, interrupts, resets (spec/95 2.5 and part 3) -/

theorem test_step_runs_first_word :
    (after (step (State.reset.withFetchWord 14 0x305A))).map (fun t => (t.w, t.pc)) =
      some (0x5A, 0x0001) := by decide
theorem test_step_refuses_reserved :
    refusal (step (State.reset.withFetchWord 14 0x3B00)) = some (.reserved 0x3B00) := by decide
theorem test_interrupt_entry :
    (after (step { start 0 0 0 with pc := 0x0015, intcon := 0x92 })).map
      (fun t => (t.pc, t.stackAt 0, t.sp, t.intcon)) = some (0x0004, 0x0015, 1, 0x12) := by decide
theorem test_wake_up_runs_one_instruction :
    (after (step { start 0 0x00 0 with
        asleep := true, intcon := 0x90, schedule := [[.intEdge true]],
        prog := Memory.write [] 0x100 0x0A8C })).map
      (fun t => (t.pc, t.ram.read 0x0C, t.asleep, t.intcon)) =
      some (0x0101, 0x01, false, 0x92) := by decide
theorem test_mclr :
    (fun t : State => (t.pc, t.status, t.intcon, t.trisB, t.w, t.ram.read 0x0C))
      (mclrReset { start 0x12 0x34 0 with status := 0x3F, intcon := 0xB1, trisB := 0 }) =
      (0, 0x1F, 0x01, 0xFF, 0x12, 0x34) := by decide
theorem test_watchdog_reset :
    (watchdogReset { start 0 0 0 with status := 0x3F }).status = 0x0F := by decide
theorem test_timer_cycle_policy :
    (after (step { (State.reset.withFetchWord 14 0x0000) with
        optionReg := 0xDF, tmr0 := 0xFF
        cfg := { wdtEnabled := false, tmr0Policy := .cycle } })).map
      (fun t => (t.tmr0, t.t0if)) = some (0x00, true) := by decide
/-- The words of the unlock sequence, from 0100h, in Bank 1 with WREN = 1 (R260). -/
def unlocking : State :=
  { State.reset with
    pc := 0x0100#13, status := 0x20#8, eecon1 := 0b00100#5
    prog := [(0x100, 0x3055), (0x101, 0x0089), (0x102, 0x30AA), (0x103, 0x0089), (0x104, 0x1488)] }

/-- The state after two more steps. -/
def two (s : State) : Option State := (after (step s)).bind fun t => after (step t)

theorem test_unlock_sequence_counts :
    ((two unlocking).bind two).map (fun t => (t.eeUnlock, t.eeSequence)) = some (2, 4) := by decide
theorem test_unlock_sequence_starts_write :
    (after (step { unlocking with
        pc := 0x0104, eeUnlock := 2, eeSequence := 4, eeadr := 0x45, eedata := 0xA7 })).map
      (fun t => (t.eecon1, t.eeUnlock, t.eeAddr, t.eeData)) =
      some (0b00110, 0, 0x05, 0xA7) := by decide
theorem test_unlock_sequence_broken_by_interrupt :
    (after (step { unlocking with eeUnlock := 2, eeSequence := 4, intcon := 0x92 })).map
      (fun t => (t.eeUnlock, t.eeSequence)) = some (2, 0) := by decide
theorem test_eeprom_write_completes :
    (fun t : State => (t.ee.read 5, t.eecon1))
      (agentStep .eeWriteDone
        { State.reset with eecon1 := 0b00110, eeAddr := 5, eeData := 0xA7 }) =
      (0xA7, 0b10100) := by decide

/-! ### Witnesses: for every statement that has hypotheses, states and operands that meet them -/

/-- Awake, no agent step, and the word at the program counter as given. -/
def loaded (word : CodeWord) : State :=
  { State.reset with pc := 0x0100#13, prog := Memory.write [] 0x100 word }

theorem witness_DecodeOfEncodeIsIdentity :
    (Instr.tris 5#3).wellFormed = true ∧ (Instr.tris 7#3).wellFormed = true ∧
    (Instr.addwf .f 0x7F#7).wellFormed = true := by decide

theorem witness_DecodeFollowsOpcodeTable :
    (∃ r ∈ opcodeTable, r.applies 0x0000#14 = true) ∧
    (∃ r ∈ opcodeTable, r.applies 0x3FFF#14 = true) ∧
    (∀ r ∈ opcodeTable, r.applies 0x3B00#14 = false) := by decide

theorem witness_DecodedWordDiffersOnlyInDontCareBits :
    decode 0x017F#14 = .ok .clrw ∧ Instr.clrw.wellFormed = true ∧
    decode 0x0067#14 = .ok (.tris 7#3) := by decide

theorem witness_ReservedWordsAreExactlyTheListedOnes :
    (runAgents (loaded 0x3B00)).asleep = false ∧ interruptDue (runAgents (loaded 0x3B00)) = false ∧
    fetch (runAgents (loaded 0x3B00)) = 0x3B00#14 ∧
    decode 0x3B00#14 = .error (.reserved 0x3B00#14) := by decide

/-- The ends of every reserved range, and the words beside them. -/
theorem witness_reserved_ranges :
    (∀ n ∈ [0x01, 0x07, 0x0A, 0x1F, 0x21, 0x3F, 0x41, 0x5F, 0x61, 0x68, 0x7F, 0x3B00, 0x3BFF],
      (decodeTableWord 14 n).isNone = true) ∧
    (∀ n ∈ [0x00, 0x08, 0x09, 0x20, 0x40, 0x60, 0x62, 0x67, 0x80, 0x3AFF, 0x3C00],
      (decodeTableWord 14 n).isSome = true) := by decide

theorem witness_StepExecutesDecodedInstruction :
    (runAgents (loaded 0x305A)).asleep = false ∧ interruptDue (runAgents (loaded 0x305A)) = false ∧
    decode ((runAgents (loaded 0x305A)).prog.read
      ((runAgents (loaded 0x305A)).pc.extractLsb' 0 10).toNat) = .ok (.movlw 0x5A#8) ∧
    ∃ t, exec (.movlw 0x5A#8) (countSequence (.movlw 0x5A#8) (runAgents (loaded 0x305A))) = .next t :=
  ⟨by decide, by decide, by decide, _, rfl⟩

theorem witness_StepExecutesDecodedInstruction_refused :
    (runAgents (loaded 0x0B82)).asleep = false ∧ interruptDue (runAgents (loaded 0x0B82)) = false ∧
    decode ((runAgents (loaded 0x0B82)).prog.read
      ((runAgents (loaded 0x0B82)).pc.extractLsb' 0 10).toNat) = .ok (.decfsz .f 0x02#7) ∧
    exec (.decfsz .f 0x02#7) (countSequence (.decfsz .f 0x02#7) (runAgents (loaded 0x0B82))) =
      .refused (.reserved 0x0B82#14) :=
  ⟨by decide, by decide, by decide, rfl⟩

theorem witness_StepKeepsInvariant :
    (loaded 0x305A).Inv ∧ ∃ t, step (loaded 0x305A) = .next t :=
  ⟨by decide, _, rfl⟩

theorem witness_StepNeverWritesProgramMemory : ∃ t, step (loaded 0x305A) = .next t := ⟨_, rfl⟩

theorem witness_FileAddressFromFieldAndBank :
    (0x01#7 ≠ 0#7) ∧ (0x7F#7 ≠ 0#7) ∧
    (State.reset.status.getLsbD 5 = (start 1 2 7).status.getLsbD 5 ∧
      State.reset.fsr = (start 1 2 7).fsr) ∧
    ({ State.reset with fsr := 0x80#8 }).fsr.extractLsb' 0 7 = 0#7 := by decide

theorem witness_FileMap_ranges :
    (∀ a ∈ [0x0C#8, 0x2F#8, 0x8C#8, 0xAF#8],
      0x0C ≤ (a.extractLsb' 0 7).toNat ∧ (a.extractLsb' 0 7).toNat ≤ 0x2F) ∧
    (∀ a ∈ [0x30#8, 0x7F#8, 0xB0#8, 0xFF#8], 0x30 ≤ (a.extractLsb' 0 7).toNat) ∧
    (0x85#8 ≠ 0x05#8 ∧ 0x85#8 ≠ 0x06#8) := by decide

theorem witness_GeneralPurposeRegistersAreSharedByBothBanks :
    (start 0 0x5A 0).ram.wf = true ∧
    0x0C ≤ (BitVec.extractLsb' 0 7 0x0C#8).toNat ∧ (BitVec.extractLsb' 0 7 0x0C#8).toNat ≤ 0x2F ∧
    0x0C ≤ (BitVec.extractLsb' 0 7 0xAF#8).toNat ∧ (BitVec.extractLsb' 0 7 0xAF#8).toNat ≤ 0x2F ∧
    BitVec.extractLsb' 0 7 0xAF#8 ≠ BitVec.extractLsb' 0 7 0x0C#8 := by decide

theorem witness_StatusAsDestination :
    ∃ t, fileWrite true 0x83#8 0xFF#8 State.reset = t ∧ t.status = 0b11111000#8 :=
  ⟨_, rfl, by decide⟩

theorem witness_PortsReadLatchOrPin :
    ({ State.reset with trisA := 0#5 }).trisA.getLsbD 4 = false ∧
    ({ State.reset with trisA := 0#5 }).latA.getLsbD 4 = false ∧
    State.reset.trisA.getLsbD 4 = true ∧
    ({ State.reset with trisA := 0#5, latA := 0x10#5 }).latA.getLsbD 4 = true := by decide

theorem witness_PortBitInstructionsCopyPinsToLatch : State.reset.rp0 = false := by decide

/-- The operands of every result statement of the file register operations. -/
theorem witness_file_operands :
    (0x0C#8 = ea 0x0C#7 (start 1 2 0) ∧ 0x02#8 = fileValue 0x0C#8 (start 1 2 0)) ∧
    (0x2F#8 = ea 0x00#7 { start 1 2 0 with fsr := 0x2F#8 } ∧
      0x00#8 = fileValue 0x2F#8 { start 1 2 0 with fsr := 0x2F#8 }) := by decide

theorem witness_SkipCounterResults :
    (ea 0x0C#7 (start 1 2 0) ≠ 0x02#8 ∧ ea 0x0C#7 (start 1 2 0) ≠ 0x82#8) ∧
    (0x02#8 = ea 0x02#7 (start 1 2 0) ∧ 0x01#8 = fileValue 0x02#8 (start 1 2 0) ∧
      Dest.w = .w) := by decide

theorem witness_SkipCountersRefusePclDestination :
    ea 0x02#7 State.reset = 0x02#8 ∧ ea 0x00#7 { State.reset with fsr := 0x82#8 } = 0x82#8 := by
  decide

theorem witness_LogicLiteralResults :
    (Instr.andlw 0x5F#8 = .andlw 0x5F#8 ∧ 0x03#8 = (start 0xA3 0 0).w &&& 0x5F#8) ∧
    (Instr.iorlw 0x35#8 = .iorlw 0x35#8 ∧ 0xBF#8 = (start 0x9A 0 0).w ||| 0x35#8) ∧
    (Instr.xorlw 0xAF#8 = .xorlw 0xAF#8 ∧ 0x1A#8 = (start 0xB5 0 0).w ^^^ 0xAF#8) := by decide

theorem witness_OnlyExplicitWritesChangePclath :
    ∃ t, exec (.movwf 0x0A#7) (start 0x1F 0 0) = .next t ∧ t.pclath ≠ (start 0x1F 0 0).pclath :=
  ⟨_, rfl, by decide⟩

theorem witness_InstructionsWriteOnlyTheirFlags :
    ∃ t, exec (.incf .f 0x0C#7) (start 0 1 0) = .next t ∧
      Instr.incf .f 0x0C#7 ≠ .clrwdt ∧ Instr.incf .f 0x0C#7 ≠ .sleep ∧
      storeLoc (.incf .f 0x0C#7) (start 0 1 0) ≠ some .status ∧
      affectsZ (.swapf .w 0x0C#7) = false ∧ affectsDC (.incf .f 0x0C#7) = false ∧
      affectsC (.incf .f 0x0C#7) = false :=
  ⟨_, rfl, by decide⟩

theorem witness_InstructionsChangeOnlyTheStoredByte :
    ∃ t, exec (.movwf 0x0C#7) (start 9 1 0) = .next t ∧
      storeLoc (.movwf 0x0C#7) (start 9 1 0) = some (.gpr 0x0C) ∧
      storeLoc (.movwf 0x0C#7) (start 9 1 0) ≠ some (.gpr 0x2F) :=
  ⟨_, rfl, by decide⟩

/-- One NOP meets every hypothesis of the register frame at once. -/
theorem witness_InstructionsChangeOnlyTheirRegisters :
    ∃ t, exec .nop (start 9 1 0) = .next t ∧ writesW .nop = false ∧
      storeLoc .nop (start 9 1 0) = none ∧ readLocation .nop (start 9 1 0) = none ∧
      Instr.nop ≠ .retfie ∧ Instr.nop ≠ .option ∧
      Instr.nop ≠ .tris 5#3 ∧ Instr.nop ≠ .tris 6#3 ∧ Instr.nop ≠ .clrwdt ∧ Instr.nop ≠ .sleep ∧
      (∀ k, Instr.nop ≠ .call k) ∧ Instr.nop ≠ .ret ∧ (∀ k, Instr.nop ≠ .retlw k) :=
  ⟨_, rfl, rfl, rfl, rfl, by decide, by decide, by decide, by decide, by decide, by decide,
    (by intro _ h; cases h), by decide, (by intro _ h; cases h)⟩

theorem witness_ProgramCounterTargets :
    (∃ t, exec (.addwf .f 0x02#7) (start 9 1 0) = .next t ∧
      storeLoc (.addwf .f 0x02#7) (start 9 1 0) = some .pcl) ∧
    (∃ t, exec (.addwf .w 0x02#7) (start 9 1 0) = .next t ∧
      storeLoc (.addwf .w 0x02#7) (start 9 1 0) ≠ some .pcl) :=
  ⟨⟨_, rfl, by decide⟩, ⟨_, rfl, by decide⟩⟩

theorem witness_InstructionCycleCounts :
    ∃ t, exec (.btfss 0x0C#7 0#3) (start 9 1 0) = .next t ∧ t.cycles = 2 := ⟨_, rfl, by decide⟩

theorem witness_StackIsACircularBufferOfEight :
    ∃ t, t = pushAll (#v[1#13, 2, 3, 4, 5, 6, 7, 8] : Vector ProgAddr 8).toList State.reset ∧
      t.stackAt 7#3 = 8#13 :=
  ⟨_, rfl, by decide⟩

theorem witness_InterruptEntryAndReturn :
    ∃ t, t = takeInterrupt { start 0 0 0 with intcon := 0x92#8 } ∧ t.intcon = 0x12#8 :=
  ⟨_, rfl, by decide⟩

theorem witness_InterruptIsTakenWhenEnabledAndRequested :
    (runAgents { start 0 0 0 with intcon := 0x92#8 }).asleep = false ∧
    interruptDue (runAgents { start 0 0 0 with intcon := 0x92#8 }) = true ∧
    interruptDue (runAgents { start 0 0 0 with intcon := 0x12#8 }) = false := by decide

/-- A handler about to return with INTF and INTE still set. -/
def returning : State := { loaded 0x0009 with intcon := 0x12#8 }

theorem witness_RetfieWithPendingRequestReenters :
    returning.asleep = false ∧ returning.schedule = [] ∧ returning.gie = false ∧
    irq returning = true ∧ decode (fetch returning) = .ok .retfie ∧
    ∃ t, step returning = .next t :=
  ⟨by decide, by decide, by decide, by decide, by decide, _, rfl⟩

/-- Asleep before a NOP, with nothing enabled, and one boundary as given. -/
def sleeping (es : List AgentStep) : State :=
  { loaded 0x0000 with asleep := true, schedule := [es, []] }

/-- No agent step; and, with nothing enabled, every agent step but MCLR; with WR = 0 and WR = 1, and the
watchdog enabled. -/
theorem witness_PermanentSleepExecutesNothing :
    PermanentSleep { State.reset with asleep := true } ∧ PermanentSleep (sleeping [.tmr0Tick]) ∧
    PermanentSleep (sleeping [.intEdge true, .portBChange 0xF#4, .wdtTimeout, .eeWriteDone]) ∧
    PermanentSleep { sleeping [.eeWriteDone, .eeWriteDone] with eecon1 := 0b00010#5 } ∧
    PermanentSleep { sleeping [.wdtTick] with cfg := { wdtEnabled := true, tmr0Policy := .draw } } := by
  unfold PermanentSleep; decide

/-- Each of the three ways of R256 ends a sleep. -/
theorem test_ends_sleep :
    endsSleep .mclr (sleeping []) = true ∧
    endsSleep .wdtTimeout { sleeping [] with cfg := { wdtEnabled := true, tmr0Policy := .draw } } = true ∧
    endsSleep (.intEdge true) { sleeping [] with intcon := 0x10#8 } = true ∧
    endsSleep (.portBChange 0xF#4) { sleeping [] with intcon := 0x08#8 } = true ∧
    endsSleep .eeWriteDone { sleeping [] with intcon := 0x40#8, eecon1 := 0b00010#5 } = true ∧
    endsSleep .tmr0Tick { sleeping [] with intcon := 0x20#8, tmr0 := 0xFF#8 } = false := by decide

/-- Asleep before a NOP, with INTE, INTF and GIE set. -/
def waking : State := { loaded 0x0000 with asleep := true, intcon := 0x92#8 }

/-- Asleep before a NOP, with INTE and GIE set, and an edge on RB0/INT to come, with the one after it as
given. -/
def awaited (e : AgentStep) : State :=
  { loaded 0x0000 with asleep := true, intcon := 0x90#8, schedule := [[.intEdge true, e]] }

/-- A boundary that wakes the core, one that does not, and the hypotheses on the next step. -/
theorem witness_WakeUpRunsOneInstructionBeforeInterrupt :
    (∀ s ∈ [waking, awaited .tmr0Tick, awaited .wdtTimeout,
        { waking with intcon := 0x82#8, schedule := [[.intEdge false]] }],
      s.asleep = true ∧ AgentStep.mclr ∉ s.schedule.headD [] ∧ s.cfg.wdtEnabled = false) ∧
    (∀ s ∈ [waking, awaited .tmr0Tick, awaited .mclr],
      (runAgents s).asleep = false ∧ (runAgents s).deferIrq = (runAgents s).gie ∧
      decode (fetch (runAgents s)) = .ok .nop) ∧
    (runAgents { waking with intcon := 0x82#8, schedule := [[.intEdge false]] }).asleep = true := by
  decide

theorem witness_WakeUpRunsOneInstructionBeforeInterrupt_next :
    ∃ t u, exec .nop (countSequence .nop (runAgents (awaited .tmr0Tick))) = .next t ∧
      step (awaited .tmr0Tick) = .next u ∧ u.asleep = false ∧
      (runAgents u).gie = true ∧ irq (runAgents u) = true :=
  ⟨_, _, rfl, rfl, by decide⟩

/-- A GOTO to its own address under the policy `cycle`, with OPTION_REG as given. -/
def idling (option : Byte) : State :=
  { loaded 0x2900 with optionReg := option, cfg := { wdtEnabled := false, tmr0Policy := .cycle } }

/-- Under `draw`; under `cycle` in counter mode, the holding of the count at either end of its range; and
with GIE = 1 and no request. -/
theorem witness_IdleLoopStaysIdle :
    IdleLoop (loaded 0x2900) ∧ IdleLoop { loaded 0x2900 with schedule := [[]] } ∧
    IdleLoop (idling 0xFF) ∧
    IdleLoop { idling 0xFF with t0Inhibit := 3#2 } ∧ IdleLoop { idling 0xFF with intcon := 0xA0#8 } := by
  unfold IdleLoop; decide

/-- R301 with R246: in timer mode under `cycle` Timer0 counts on, so this is no idle loop. -/
theorem test_idle_loop_not_while_timer_counts :
    ¬ IdleLoop (idling 0xDF) ∧ (after (step (idling 0xDF))).map (·.tmr0) = some 2 := by
  unfold IdleLoop; decide

theorem witness_AgentStepsChangeOnlyTheirState :
    (∃ t, t = agentStep .tmr0Tick State.reset ∧ AgentStep.tmr0Tick ≠ .mclr ∧
      AgentStep.tmr0Tick ≠ .wdtTimeout) ∧
    (∃ t, t = agentStep .wdtTimeout waking ∧ waking.asleep = true) :=
  ⟨⟨_, rfl, by decide⟩, ⟨_, rfl, by decide⟩⟩

/-- Counter mode under the policy `cycle`; T0SE selects the falling edge. -/
def counting (option psc : Byte) : State :=
  { State.reset with
    optionReg := option, psc := psc, cfg := { wdtEnabled := false, tmr0Policy := .cycle } }

theorem witness_AgentStepsChangeOnlyTheirState_tmr0 :
    (State.reset.cfg.tmr0Policy = .draw ∧ State.reset.asleep = false) ∧
    (∀ o ∈ [0xFF#8, 0xF7#8, 0xF0#8], (counting o 0xFF).cfg.tmr0Policy = .cycle ∧
      (counting o 0xFF).asleep = false ∧ (counting o 0xFF).optionReg.getLsbD 5 = true ∧
      false = !(counting o 0xFF).optionReg.getLsbD 4 ∧ (counting o 0xFF).t0Inhibit = 0#2) ∧
    (counting 0xFF 0).optionReg.getLsbD 3 = true ∧
    ((counting 0xF7 0xFF).optionReg.getLsbD 3 = false ∧
      ((counting 0xF7 0xFF).psc + 1#8).toNat % 2 ^ ((counting 0xF7 0xFF).ps + 1) = 0) ∧
    ((counting 0xF0 0x00).optionReg.getLsbD 3 = false ∧
      ((counting 0xF0 0x00).psc + 1#8).toNat % 2 ^ ((counting 0xF0 0x00).ps + 1) ≠ 0) := by decide

theorem witness_AgentStepsChangeOnlyTheirState_pins :
    (∃ j, j < 4 ∧ State.reset.trisB.getLsbD (4 + j) = true ∧
      BitVec.getLsbD 0x8#4 j ≠ State.reset.rbLatch.getLsbD j) ∧
    (∀ j, j < 4 → ({ State.reset with trisB := 0x7F#8 }).trisB.getLsbD (4 + j) = true →
      BitVec.getLsbD 0x8#4 j = ({ State.reset with trisB := 0x7F#8 }).rbLatch.getLsbD j) :=
  ⟨⟨3, by decide⟩, by decide⟩

theorem witness_AgentStepsChangeOnlyTheirState_schedule :
    State.reset.schedule = [] ∧
    ({ waking with schedule := [[.intEdge true, .wdtTick], [.mclr]] }).schedule =
      [.intEdge true, .wdtTick] :: [[.mclr]] ∧
    (({ State.reset with schedule := [[.intEdge true]] }).schedule = [.intEdge true] :: [] ∧
      ({ State.reset with schedule := [[.intEdge true]] }).asleep = false) ∧
    (runAgents { State.reset with asleep := true, schedule := [[.tmr0Tick]] }).asleep = true := by
  decide

theorem witness_MclrResetValues :
    ∃ t, t = agentStep .mclr { State.reset with eecon1 := 0b00010#5, eeAddr := 5#6 } ∧ t.wrerr = true :=
  ⟨_, rfl, rfl⟩

/-- A state in which the watchdog runs. -/
def watched (asleep : Bool) : State :=
  { State.reset with asleep := asleep, cfg := { wdtEnabled := true, tmr0Policy := .draw } }

theorem witness_WatchdogTimeoutResetsOrWakes :
    ((watched false).cfg.wdtEnabled = true ∧ (watched false).asleep = false) ∧
    ((watched true).cfg.wdtEnabled = true ∧ (watched true).asleep = true) ∧
    State.reset.cfg.wdtEnabled = false := by decide

theorem witness_NoWatchdogResetBeforeMinimumCycles :
    WatchdogPremise 100 (watched false) ∧ (watched false).asleep = false ∧
    (watched false).cycles < (watched false).wdtMark + 100 ∧
    AgentStep.mclr ∉ (watched false).schedule.headD [] := by
  unfold WatchdogPremise; decide

/-- Timer mode under the policy `cycle`, with the prescaler assigned to the watchdog or to Timer0. -/
def timing (option : Byte) : State :=
  { State.reset with optionReg := option, cfg := { wdtEnabled := false, tmr0Policy := .cycle } }

theorem witness_Timer0CountsInstructionCycles :
    (∀ o ∈ [0xDF#8, 0xD0#8, 0xD7#8], (timing o).cfg.tmr0Policy = .cycle ∧
      (timing o).asleep = false ∧ (timing o).t0cs = false ∧ (timing o).t0Inhibit = 0#2 ∧
      (timing o).psc = 0x00#8) ∧
    (timing 0xDF).psa = true ∧ (timing 0xD0).psa = false ∧ (timing 0xD7).psa = false := by decide

theorem witness_Timer0CountsInstructionCycles_still :
    State.reset.cfg.tmr0Policy = .draw ∧
    ((counting 0xFF 0).cfg.tmr0Policy = .cycle ∧ (counting 0xFF 0).t0cs = true) ∧
    (({ timing 0xDF with asleep := true }).cfg.tmr0Policy = .cycle ∧
      ({ timing 0xDF with asleep := true }).asleep = true) ∧
    3 ≤ ({ timing 0xDF with t0Inhibit := 3#2 }).t0Inhibit.toNat ∧
    2 = (({ timing 0xD7 with psc := 0xFF#8 }).psc.toNat % 2 ^ ((timing 0xD7).ps + 1) + 257) /
      2 ^ ((timing 0xD7).ps + 1) := by decide

theorem witness_EepromReadLoadsEedata :
    ({ State.reset with status := 0x20#8 }).rp0 = true ∧
    ({ State.reset with status := 0x20#8 }).rd = false := by decide

theorem witness_EepromControlWrites :
    State.reset.rd = false ∧ (∃ t, fileWrite false 0x88#8 0x06#8 State.reset = t ∧
      BitVec.getLsbD 0x06#8 1 = true ∧ BitVec.getLsbD 0x06#8 2 = true ∧ State.reset.wr = false) ∧
    (({ State.reset with eeUnlock := 2#2, eeSequence := 5#3 }).eeUnlock = 2#2 ∧
      ({ State.reset with eeUnlock := 2#2, eeSequence := 5#3 }).eeSequence = 5#3) ∧
    State.reset.eeUnlock ≠ 2#2 ∧
    ({ State.reset with eeUnlock := 2#2 }).eeSequence ≠ 5#3 ∧
    BitVec.getLsbD 0x02#8 2 = false ∧ ({ State.reset with eecon1 := 0b00010#5 }).wr = true ∧
    ({ State.reset with eeUnlock := 1#2 }).eeUnlock = 1#2 ∧ (0xAA#8 ≠ 0x55#8) :=
  ⟨by decide, ⟨_, rfl, by decide⟩, by decide⟩

theorem witness_EepromUnlockSequenceStartsWrite :
    (∀ e ∈ [0b00100#5, 0b00000#5],
      ({ State.reset with status := 0x20#8, eecon1 := e }).rp0 = true ∧
      ({ State.reset with status := 0x20#8, eecon1 := e }).rd = false ∧
      ({ State.reset with status := 0x20#8, eecon1 := e }).wr = false) ∧
    ({ State.reset with eecon1 := 0b00100#5 }).wren = true ∧ State.reset.wren = false := by decide

theorem witness_EepromWriteCompletes :
    (({ State.reset with eecon1 := 0b00110#5 }).ee.wf = true ∧
      ({ State.reset with eecon1 := 0b00110#5 }).wr = true ∧
      ∃ t, t = agentStep .eeWriteDone { State.reset with eecon1 := 0b00110#5 }) ∧
    State.reset.wr = false :=
  ⟨⟨by decide, by decide, _, rfl⟩, by decide⟩

end Sys2Proof.Tests
end

section
/-! PROOFS. The encoding (30_encoding.md R111 to R119): the fields of a word in each of the four formats,
the words an instruction decodes from, and the reserved words. -/

namespace Sys2Proof

/-! ### The four formats: the value of a word, and its fields (R111 to R114) -/

/-- Two bit fields side by side, as a number. -/
theorem toNat_append_eq_add {m n : Nat} (x : BitVec m) (y : BitVec n) :
    (x ++ y).toNat = x.toNat * 2 ^ n + y.toNat := by
  rw [BitVec.toNat_append, ← Nat.shiftLeft_add_eq_or_of_lt y.isLt, Nat.shiftLeft_eq]

/-- A bit field, as a number. -/
theorem toNat_extractLsb'_eq_div_mod {w : Nat} (start len : Nat) (x : BitVec w) :
    (x.extractLsb' start len).toNat = x.toNat / 2 ^ start % 2 ^ len := by
  rw [BitVec.extractLsb'_toNat, Nat.shiftRight_eq_div_pow]

/-- A bit field, found from the value of the word. -/
theorem extractLsb'_eq_of_toNat {w start len : Nat} {x : BitVec w} {y : BitVec len}
    (h : x.toNat / 2 ^ start % 2 ^ len = y.toNat) : x.extractLsb' start len = y :=
  BitVec.eq_of_toNat_eq ((toNat_extractLsb'_eq_div_mod start len x).trans h)

/-- The `d` bit tells the destinations apart. -/
theorem Dest.bit_eq_one (d : Dest) : (d.bit == 1#1) = (d == .f) := by cases d <;> rfl

/-- A destination is the one its `d` bit selects. -/
@[simp] theorem Dest.ofBool_beq_f (d : Dest) : Dest.ofBool (d == .f) = d := by cases d <;> rfl

/-- The `d` bit of the destination that bit 7 selects is bit 7. -/
theorem Dest.bit_ofBool_getLsbD (w : CodeWord) :
    (Dest.ofBool (w.getLsbD 7)).bit = w.extractLsb' 7 1 := by
  have hv : ∀ v : BitVec 1, (Dest.ofBool (v == 1#1)).bit = v := by decide
  rw [BitVec.getLsbD_eq_extractLsb', hv]

section ByteFormat

variable (op : BitVec 4) (d : Dest) (f : BitVec 7)

theorem toNat_encodeByteFD :
    (encodeByteFD op d f).toNat = op.toNat * 256 + d.bit.toNat * 128 + f.toNat := by
  change (0b00#2 ++ op ++ d.bit ++ f).toNat = _
  simp only [toNat_append_eq_add, BitVec.toNat_ofNat]
  omega

@[simp] theorem space_encodeByteFD : (encodeByteFD op d f).extractLsb' 12 2 = 0#2 :=
  extractLsb'_eq_of_toNat (by simp only [toNat_encodeByteFD, BitVec.toNat_ofNat]; omega)

@[simp] theorem opcode_encodeByteFD : (encodeByteFD op d f).extractLsb' 8 4 = op :=
  extractLsb'_eq_of_toNat (by rw [toNat_encodeByteFD]; omega)

@[simp] theorem low7_encodeByteFD : (encodeByteFD op d f).extractLsb' 0 7 = f :=
  extractLsb'_eq_of_toNat (by rw [toNat_encodeByteFD]; omega)

@[simp] theorem low3_encodeByteFD :
    (encodeByteFD op d f).extractLsb' 0 3 = f.extractLsb' 0 3 :=
  extractLsb'_eq_of_toNat (by simp only [toNat_encodeByteFD, toNat_extractLsb'_eq_div_mod]; omega)

@[simp] theorem bit7_encodeByteFD : (encodeByteFD op d f)[7] = (d == .f) := by
  have hd : (encodeByteFD op d f).extractLsb' 7 1 = d.bit :=
    extractLsb'_eq_of_toNat (by rw [toNat_encodeByteFD]; omega)
  rw [BitVec.getElem_eq_extractLsb', hd, Dest.bit_eq_one]

end ByteFormat

section BitFormat

variable (op : BitVec 2) (f : BitVec 7) (b : BitVec 3)

theorem toNat_encodeBit :
    (encodeBit op f b).toNat = 0x1000 + op.toNat * 1024 + b.toNat * 128 + f.toNat := by
  change (0b01#2 ++ op ++ b ++ f).toNat = _
  simp only [toNat_append_eq_add, BitVec.toNat_ofNat]
  omega

@[simp] theorem space_encodeBit : (encodeBit op f b).extractLsb' 12 2 = 1#2 :=
  extractLsb'_eq_of_toNat (by simp only [toNat_encodeBit, BitVec.toNat_ofNat]; omega)

@[simp] theorem opcode_encodeBit : (encodeBit op f b).extractLsb' 10 2 = op :=
  extractLsb'_eq_of_toNat (by rw [toNat_encodeBit]; omega)

@[simp] theorem fieldB_encodeBit : fieldB (encodeBit op f b) = b :=
  extractLsb'_eq_of_toNat (by rw [toNat_encodeBit]; omega)

@[simp] theorem fieldF_encodeBit : fieldF (encodeBit op f b) = f :=
  extractLsb'_eq_of_toNat (by rw [toNat_encodeBit]; omega)

end BitFormat

section BranchFormat

variable (op : BitVec 1) (k : BitVec 11)

theorem toNat_encodeBranch :
    (encodeBranch op k).toNat = 0x2000 + op.toNat * 2048 + k.toNat := by
  change (0b10#2 ++ op ++ k).toNat = _
  simp only [toNat_append_eq_add, BitVec.toNat_ofNat]
  omega

@[simp] theorem space_encodeBranch : (encodeBranch op k).extractLsb' 12 2 = 2#2 :=
  extractLsb'_eq_of_toNat (by simp only [toNat_encodeBranch, BitVec.toNat_ofNat]; omega)

@[simp] theorem bit11_encodeBranch : (encodeBranch op k)[11] = (op == 1#1) := by
  have hop : (encodeBranch op k).extractLsb' 11 1 = op :=
    extractLsb'_eq_of_toNat (by rw [toNat_encodeBranch]; omega)
  rw [BitVec.getElem_eq_extractLsb', hop]

@[simp] theorem fieldK11_encodeBranch : fieldK11 (encodeBranch op k) = k :=
  extractLsb'_eq_of_toNat (by rw [toNat_encodeBranch]; omega)

end BranchFormat

section LiteralFormat

variable (op : BitVec 4) (k : Byte)

theorem toNat_encodeLiteral :
    (encodeLiteral op k).toNat = 0x3000 + op.toNat * 256 + k.toNat := by
  change (0b11#2 ++ op ++ k).toNat = _
  simp only [toNat_append_eq_add, BitVec.toNat_ofNat]
  omega

@[simp] theorem space_encodeLiteral : (encodeLiteral op k).extractLsb' 12 2 = 3#2 :=
  extractLsb'_eq_of_toNat (by simp only [toNat_encodeLiteral, BitVec.toNat_ofNat]; omega)

@[simp] theorem opcode_encodeLiteral : (encodeLiteral op k).extractLsb' 8 4 = op :=
  extractLsb'_eq_of_toNat (by rw [toNat_encodeLiteral]; omega)

@[simp] theorem low8_encodeLiteral : (encodeLiteral op k).extractLsb' 0 8 = k :=
  extractLsb'_eq_of_toNat (by rw [toNat_encodeLiteral]; omega)

/-- A word as the three fields of the literal format (R113). -/
theorem codeWord_eq_append (w : CodeWord) :
    w = (w.extractLsb' 12 2 ++ w.extractLsb' 8 4 ++ w.extractLsb' 0 8 : BitVec 14) := by
  apply BitVec.eq_of_toNat_eq
  simp only [toNat_append_eq_add, toNat_extractLsb'_eq_div_mod]
  omega

/-- Bits cleared in the opcode field of a literal word. -/
theorem encodeLiteral_clear (m : BitVec 4) :
    encodeLiteral op k &&& ~~~(0#2 ++ m ++ 0#8 : BitVec 14) = encodeLiteral (op &&& ~~~m) k := by
  change (0b11#2 ++ op ++ k) &&& ~~~(0#2 ++ m ++ 0#8) = 0b11#2 ++ (op &&& ~~~m) ++ k
  rw [BitVec.not_append, BitVec.not_append, BitVec.and_append, BitVec.and_append]
  simp [show k &&& 255#8 = k from BitVec.and_allOnes]

/-- Bits set in the opcode field of a literal word. -/
theorem encodeLiteral_set (x : CodeWord) (m : BitVec 4) :
    encodeLiteral op k ||| (x &&& (0#2 ++ m ++ 0#8 : BitVec 14)) =
      encodeLiteral (op ||| (x.extractLsb' 8 4 &&& m)) k := by
  conv_lhs => rw [codeWord_eq_append x]
  change (0b11#2 ++ op ++ k) ||| ((_ ++ _ ++ _) &&& (0#2 ++ m ++ 0#8)) =
    0b11#2 ++ (op ||| (_ &&& m)) ++ k
  rw [BitVec.and_append, BitVec.and_append, BitVec.or_append, BitVec.or_append]
  simp

end LiteralFormat

/-- Every word is in one of the four formats, by bits 13:12. CLRF, MOVWF, CLRW and the no-operand group
count as byte-oriented words. -/
theorem codeWord_cases {P : CodeWord → Prop} (byte : ∀ op d f, P (encodeByteFD op d f))
    (bit : ∀ op f b, P (encodeBit op f b)) (branch : ∀ op k, P (encodeBranch op k))
    (literal : ∀ op k, P (encodeLiteral op k)) (w : CodeWord) : P w := by
  have hspace : w.toNat / 4096 < 4 := by omega
  have hd : (fieldD w).bit.toNat = w.toNat / 2 ^ 7 % 2 ^ 1 := by
    rw [fieldD, Dest.bit_ofBool_getLsbD, toNat_extractLsb'_eq_div_mod]
  interval_cases h : w.toNat / 4096
  · have hw : w = encodeByteFD (w.extractLsb' 8 4) (fieldD w) (fieldF w) := by
      apply BitVec.eq_of_toNat_eq
      simp only [toNat_encodeByteFD, hd, fieldF, toNat_extractLsb'_eq_div_mod]
      omega
    exact hw ▸ byte _ _ _
  · have hw : w = encodeBit (w.extractLsb' 10 2) (fieldF w) (fieldB w) := by
      apply BitVec.eq_of_toNat_eq
      simp only [toNat_encodeBit, fieldF, fieldB, toNat_extractLsb'_eq_div_mod]
      omega
    exact hw ▸ bit _ _ _
  · have hw : w = encodeBranch (w.extractLsb' 11 1) (fieldK11 w) := by
      apply BitVec.eq_of_toNat_eq
      simp only [toNat_encodeBranch, fieldK11, toNat_extractLsb'_eq_div_mod]
      omega
    exact hw ▸ branch _ _
  · have hw : w = encodeLiteral (w.extractLsb' 8 4) (fieldK8 w) := by
      apply BitVec.eq_of_toNat_eq
      simp only [toNat_encodeLiteral, fieldK8, toNat_extractLsb'_eq_div_mod]
      omega
    exact hw ▸ literal _ _

/-! ### Decoding the word of an instruction (R116, R118) -/

/-- An instruction decodes from its own word. -/
theorem decode_encode (i : Instr) (h : i.wellFormed = true) : decode (encode i) = .ok i := by
  cases i with
  | addwf d f | andwf d f | comf d f | decf d f | decfsz d f | incf d f | incfsz d f | iorwf d f
  | movf d f | rlf d f | rrf d f | subwf d f | swapf d f | xorwf d f =>
    simp [encode, decode, decodeByteOriented, fieldD, fieldF]
  | clrf f =>
    change decode (encodeByteFD 1#4 .f f) = _
    simp [decode, decodeByteOriented, fieldF]
  | movwf f =>
    change decode (encodeByteFD 0#4 .f f) = _
    simp [decode, decodeByteOriented, fieldF]
  | bcf f b | bsf f b | btfsc f b | btfss f b => simp [encode, decode, decodeBitOriented]
  | call k | goto k => simp [encode, decode]
  | addlw k | andlw k | iorlw k | movlw k | retlw k | sublw k | xorlw k =>
    simp [encode, decode, decodeLiteral, fieldK8]
  | clrw | nop | clrwdt | retfie | ret | sleep | option => decide
  | tris f => revert f; decide

/-- `00xx` in the literal space is MOVLW. -/
theorem decode_movlw {op : BitVec 4} (k : Byte) (h : op ∈ [0#4, 1#4, 2#4, 3#4]) :
    decode (encodeLiteral op k) = .ok (.movlw k) := by
  simp only [List.mem_cons, List.not_mem_nil, or_false] at h
  rcases h with rfl | rfl | rfl | rfl <;> simp [decode, decodeLiteral, fieldK8]

/-- `01xx` in the literal space is RETLW. -/
theorem decode_retlw {op : BitVec 4} (k : Byte) (h : op ∈ [4#4, 5#4, 6#4, 7#4]) :
    decode (encodeLiteral op k) = .ok (.retlw k) := by
  simp only [List.mem_cons, List.not_mem_nil, or_false] at h
  rcases h with rfl | rfl | rfl | rfl <;> simp [decode, decodeLiteral, fieldK8]

/-- `110x` in the literal space is SUBLW. -/
theorem decode_sublw {op : BitVec 4} (k : Byte) (h : op ∈ [12#4, 13#4]) :
    decode (encodeLiteral op k) = .ok (.sublw k) := by
  simp only [List.mem_cons, List.not_mem_nil, or_false] at h
  rcases h with rfl | rfl <;> simp [decode, decodeLiteral, fieldK8]

/-- `111x` in the literal space is ADDLW. -/
theorem decode_addlw {op : BitVec 4} (k : Byte) (h : op ∈ [14#4, 15#4]) :
    decode (encodeLiteral op k) = .ok (.addlw k) := by
  simp only [List.mem_cons, List.not_mem_nil, or_false] at h
  rcases h with rfl | rfl <;> simp [decode, decodeLiteral, fieldK8]

/-- `00 0000 0xx0 0000` is NOP. -/
theorem decode_nop (x : CodeWord) : decode (x &&& 0x0060#14) = .ok .nop := by
  have hgroup : decode (x &&& 0x0060#14) = decodeNoOperand (x &&& 0x0060#14) := by
    simp [decode, decodeByteOriented, BitVec.extractLsb'_and]
  have hx : ∀ v : BitVec 7, v &&& 0x60#7 ∈ [0x00#7, 0x20#7, 0x40#7, 0x60#7] := by decide
  have hlow : (x &&& 0x0060#14).extractLsb' 0 7 ∈ [0x00#7, 0x20#7, 0x40#7, 0x60#7] := by
    rw [BitVec.extractLsb'_and]
    exact hx _
  simp only [List.mem_cons, List.not_mem_nil, or_false] at hlow
  rw [hgroup, decodeNoOperand]
  rcases hlow with h | h | h | h <;> rw [h] <;> rfl

/-- The don't-care bits of a word do not matter: CLRW, NOP, MOVLW, RETLW, ADDLW and SUBLW have some. -/
theorem decode_encode_or_dontCare (i : Instr) (x : CodeWord) (h : i.wellFormed = true) :
    decode (encode i ||| (x &&& i.dontCare)) = .ok i := by
  cases i
  case clrw =>
    simp [encode, decode, decodeByteOriented, Instr.dontCare, BitVec.extractLsb'_or,
      BitVec.extractLsb'_and]
  case nop => simpa [encode, Instr.dontCare] using decode_nop x
  case movlw k =>
    have hop : ∀ v : BitVec 4, 0#4 ||| (v &&& 3#4) ∈ [0#4, 1#4, 2#4, 3#4] := by decide
    exact (congrArg decode (encodeLiteral_set 0#4 k x 3#4)).trans (decode_movlw k (hop _))
  case retlw k =>
    have hop : ∀ v : BitVec 4, 4#4 ||| (v &&& 3#4) ∈ [4#4, 5#4, 6#4, 7#4] := by decide
    exact (congrArg decode (encodeLiteral_set 4#4 k x 3#4)).trans (decode_retlw k (hop _))
  case sublw k =>
    have hop : ∀ v : BitVec 4, 12#4 ||| (v &&& 1#4) ∈ [12#4, 13#4] := by decide
    exact (congrArg decode (encodeLiteral_set 12#4 k x 1#4)).trans (decode_sublw k (hop _))
  case addlw k =>
    have hop : ∀ v : BitVec 4, 14#4 ||| (v &&& 1#4) ∈ [14#4, 15#4] := by decide
    exact (congrArg decode (encodeLiteral_set 14#4 k x 1#4)).trans (decode_addlw k (hop _))
  all_goals simpa [Instr.dontCare] using decode_encode _ h

/-! ### Every word is listed as reserved or decodes to its instruction (R116, R118, R119) -/

/-- The values of the reserved words, as R119 lists them. -/
abbrev ReservedValue (n : Nat) : Prop :=
  (0x0001 ≤ n ∧ n ≤ 0x0007) ∨ (0x000A ≤ n ∧ n ≤ 0x001F) ∨ (0x0021 ≤ n ∧ n ≤ 0x003F) ∨
  (0x0041 ≤ n ∧ n ≤ 0x005F) ∨ n = 0x0061 ∨ (0x0068 ≤ n ∧ n ≤ 0x007F) ∨
  (0x3B00 ≤ n ∧ n ≤ 0x3BFF)

/-- The word decodes to the instruction and is its own word but for the don't-care bits. -/
abbrev DecodesTo (w : CodeWord) (i : Instr) : Prop :=
  decode w = .ok i ∧ i.wellFormed = true ∧ encode i = w &&& ~~~i.dontCare

/-- What the decoder makes of a word: a reserved one, listed and reported by name, or an instruction. -/
abbrev Classified (w : CodeWord) : Prop :=
  (ReservedValue w.toNat ∧ decode w = .error (.reserved w)) ∨
  (¬ReservedValue w.toNat ∧ ∃ i, DecodesTo w i)

/-- The word of an instruction without don't-care bits. -/
theorem decodesTo_encode (i : Instr) (hwf : i.wellFormed = true) (hdc : i.dontCare = 0#14) :
    DecodesTo (encode i) i :=
  ⟨decode_encode i hwf, hwf, by rw [hdc]; exact BitVec.and_allOnes.symm⟩

/-- A literal word whose opcode field has the don't-care bits `m` of its instruction. -/
theorem decodesTo_encodeLiteral {i : Instr} {op c : BitVec 4} {k : Byte} (m : BitVec 4)
    (h : decode (encodeLiteral op k) = .ok i) (hwf : i.wellFormed = true)
    (hdc : i.dontCare = (0#2 ++ m ++ 0#8 : BitVec 14)) (henc : encode i = encodeLiteral c k)
    (hc : c = op &&& ~~~m) : DecodesTo (encodeLiteral op k) i :=
  ⟨h, hwf, by rw [hdc, encodeLiteral_clear, henc, hc]⟩

/-- The instructions of the no-operand group (R115). -/
def noOperandInstrs : List Instr :=
  [.nop, .ret, .retfie, .option, .sleep, .clrwdt, .tris 5#3, .tris 6#3, .tris 7#3]

/-- The 128 words of the no-operand group, one by one. -/
theorem noOperand_table : ∀ f : BitVec 7,
    (ReservedValue (encodeByteFD 0#4 .w f).toNat ∧
      decode (encodeByteFD 0#4 .w f) = .error (.reserved (encodeByteFD 0#4 .w f))) ∨
    (¬ReservedValue (encodeByteFD 0#4 .w f).toNat ∧
      ∃ i ∈ noOperandInstrs, DecodesTo (encodeByteFD 0#4 .w f) i) := by
  decide

/-- Only the no-operand group of the byte-oriented space holds reserved words. -/
theorem not_reservedValue_encodeByteFD {op : BitVec 4} {d : Dest} (f : BitVec 7)
    (h : 0 < op.toNat * 2 + d.bit.toNat) : ¬ReservedValue (encodeByteFD op d f).toNat := by
  rw [toNat_encodeByteFD]
  omega

/-- The opcode map at `w[13:12] = 00`. -/
theorem classified_byte (op : BitVec 4) (d : Dest) (f : BitVec 7) :
    Classified (encodeByteFD op d f) := by
  have hreserved := not_reservedValue_encodeByteFD (op := op) (d := d) f
  obtain ⟨n, hn, rfl⟩ : ∃ n < 16, op = BitVec.ofNat 4 n := ⟨op.toNat, op.isLt, by simp⟩
  interval_cases n
  · cases d with
    | w => exact (noOperand_table f).imp_right fun ⟨hw, i, _, hi⟩ => ⟨hw, i, hi⟩
    | f => exact .inr ⟨hreserved (by decide), .movwf f, decodesTo_encode (.movwf f) rfl rfl⟩
  · cases d with
    | w =>
      refine .inr ⟨hreserved (by decide), .clrw, ?_⟩
      revert f; decide
    | f => exact .inr ⟨hreserved (by decide), .clrf f, decodesTo_encode (.clrf f) rfl rfl⟩
  all_goals refine .inr ⟨hreserved (by simp), ?_⟩
  · exact ⟨_, decodesTo_encode (.subwf d f) rfl rfl⟩
  · exact ⟨_, decodesTo_encode (.decf d f) rfl rfl⟩
  · exact ⟨_, decodesTo_encode (.iorwf d f) rfl rfl⟩
  · exact ⟨_, decodesTo_encode (.andwf d f) rfl rfl⟩
  · exact ⟨_, decodesTo_encode (.xorwf d f) rfl rfl⟩
  · exact ⟨_, decodesTo_encode (.addwf d f) rfl rfl⟩
  · exact ⟨_, decodesTo_encode (.movf d f) rfl rfl⟩
  · exact ⟨_, decodesTo_encode (.comf d f) rfl rfl⟩
  · exact ⟨_, decodesTo_encode (.incf d f) rfl rfl⟩
  · exact ⟨_, decodesTo_encode (.decfsz d f) rfl rfl⟩
  · exact ⟨_, decodesTo_encode (.rrf d f) rfl rfl⟩
  · exact ⟨_, decodesTo_encode (.rlf d f) rfl rfl⟩
  · exact ⟨_, decodesTo_encode (.swapf d f) rfl rfl⟩
  · exact ⟨_, decodesTo_encode (.incfsz d f) rfl rfl⟩

/-- The opcode map at `w[13:12] = 01`. -/
theorem classified_bit (op : BitVec 2) (f : BitVec 7) (b : BitVec 3) :
    Classified (encodeBit op f b) := by
  refine .inr ⟨by rw [toNat_encodeBit]; omega, ?_⟩
  obtain ⟨n, hn, rfl⟩ : ∃ n < 4, op = BitVec.ofNat 2 n := ⟨op.toNat, op.isLt, by simp⟩
  interval_cases n
  · exact ⟨_, decodesTo_encode (.bcf f b) rfl rfl⟩
  · exact ⟨_, decodesTo_encode (.bsf f b) rfl rfl⟩
  · exact ⟨_, decodesTo_encode (.btfsc f b) rfl rfl⟩
  · exact ⟨_, decodesTo_encode (.btfss f b) rfl rfl⟩

/-- The opcode map at `w[13:12] = 10`. -/
theorem classified_branch (op : BitVec 1) (k : BitVec 11) : Classified (encodeBranch op k) := by
  refine .inr ⟨by rw [toNat_encodeBranch]; omega, ?_⟩
  obtain ⟨n, hn, rfl⟩ : ∃ n < 2, op = BitVec.ofNat 1 n := ⟨op.toNat, op.isLt, by simp⟩
  interval_cases n
  · exact ⟨_, decodesTo_encode (.call k) rfl rfl⟩
  · exact ⟨_, decodesTo_encode (.goto k) rfl rfl⟩

/-- In the literal space exactly the opcode `1011` is reserved. -/
theorem reservedValue_encodeLiteral_iff (op : BitVec 4) (k : Byte) :
    ReservedValue (encodeLiteral op k).toNat ↔ op.toNat = 11 := by
  rw [toNat_encodeLiteral]
  omega

/-- The opcode map at `w[13:12] = 11`; `1011` is reserved. -/
theorem classified_literal (op : BitVec 4) (k : Byte) : Classified (encodeLiteral op k) := by
  have hreserved := reservedValue_encodeLiteral_iff op k
  by_cases h11 : op = 11#4
  · subst h11
    exact .inl ⟨hreserved.mpr rfl, by simp [decode, decodeLiteral]⟩
  refine .inr ⟨fun h => h11 (BitVec.eq_of_toNat_eq (hreserved.mp h)), ?_⟩
  obtain ⟨n, hn, rfl⟩ : ∃ n < 16, op = BitVec.ofNat 4 n := ⟨op.toNat, op.isLt, by simp⟩
  interval_cases n
  iterate 4 exact ⟨_, decodesTo_encodeLiteral 3#4 (decode_movlw k (by decide)) rfl rfl rfl rfl⟩
  iterate 4 exact ⟨_, decodesTo_encodeLiteral 3#4 (decode_retlw k (by decide)) rfl rfl rfl rfl⟩
  · exact ⟨_, decodesTo_encode (.iorlw k) rfl rfl⟩
  · exact ⟨_, decodesTo_encode (.andlw k) rfl rfl⟩
  · exact ⟨_, decodesTo_encode (.xorlw k) rfl rfl⟩
  · exact absurd rfl h11
  iterate 2 exact ⟨_, decodesTo_encodeLiteral 1#4 (decode_sublw k (by decide)) rfl rfl rfl rfl⟩
  iterate 2 exact ⟨_, decodesTo_encodeLiteral 1#4 (decode_addlw k (by decide)) rfl rfl rfl rfl⟩

/-- Every word is listed and reported as reserved, or decodes to its instruction. -/
theorem classified (w : CodeWord) : Classified w :=
  codeWord_cases classified_byte classified_bit classified_branch classified_literal w

/-- A decoded word is its instruction's own word but for the don't-care bits. -/
theorem decodesTo_of_decode_eq_ok {w : CodeWord} {i : Instr} (h : decode w = .ok i) :
    DecodesTo w i := by
  obtain ⟨-, hw⟩ | ⟨-, j, hj⟩ := classified w
  · rw [hw] at h; cases h
  · obtain rfl : j = i := Except.ok.inj (hj.1.symm.trans h)
    exact hj

/-- The decoder reports exactly the listed words as reserved. -/
theorem decode_eq_reserved_iff (w : CodeWord) :
    decode w = .error (.reserved w) ↔ ReservedValue w.toNat := by
  obtain ⟨hlist, hw⟩ | ⟨hlist, i, hi⟩ := classified w
  · exact iff_of_true hw hlist
  · exact iff_of_false (by rw [hi.1]; nofun) hlist

/-- The step of an awake core with no interrupt due refuses a word that does not decode. -/
theorem Machine.step_refused_of_decode_error {s₀ : Machine.State} {e : DecodeError}
    (ha : (Machine.runAgents s₀).asleep = false)
    (hi : Machine.interruptDue (Machine.runAgents s₀) = false)
    (hd : decode (Machine.fetch (Machine.runAgents s₀)) = .error e) :
    Machine.step s₀ = .refused (.reserved (Machine.fetch (Machine.runAgents s₀))) := by
  simp [Machine.step, ha, hi, hd]

/-! ### The obligations -/

/-- Settles O3: the first half by the opcode map, word by word; the second by setting don't-care bits in
the word of each instruction that has some. -/
theorem decodedWordDiffersOnlyInDontCareBits :
    Obligations.DecodedWordDiffersOnlyInDontCareBits := by
  unfold Obligations.DecodedWordDiffersOnlyInDontCareBits
  exact ⟨fun _ _ h => (decodesTo_of_decode_eq_ok h).2, decode_encode_or_dontCare⟩

/-- Settles O4: every word is on R119's list or decodes, and the step refuses what does not decode. -/
theorem reservedWordsAreExactlyTheListedOnes :
    Obligations.ReservedWordsAreExactlyTheListedOnes := by
  unfold Obligations.ReservedWordsAreExactlyTheListedOnes
  refine ⟨decode_eq_reserved_iff, ?_⟩
  rintro s₀ _ ha hi rfl hd
  exact Machine.step_refused_of_decode_error ha hi hd

end Sys2Proof
end

section
/-! PROOFS. The byte-oriented file register operations (40_byte_oriented.md R142 to R162): the adder, the
rotations, the words and the results of the instructions. -/

namespace Sys2Proof.Machine

/-! ### The adder (R142, R143) -/

section Adder

variable {w : Nat} (x y : BitVec w)

/-- The top bit of a word tells whether the value reaches half the range. -/
theorem getLsbD_top_eq_decide (z : BitVec (w + 1)) : z.getLsbD w = decide (2 ^ w ≤ z.toNat) := by
  simpa [BitVec.msb_eq_getLsbD_last] using BitVec.msb_eq_decide z

/-- The value of a sum with one bit to spare. -/
theorem toNat_zeroExtend_add :
    (x.zeroExtend (w + 1) + y.zeroExtend (w + 1)).toNat = x.toNat + y.toNat := by
  have hx : (x.zeroExtend (w + 1)).toNat = x.toNat := BitVec.toNat_setWidth_of_le w.le_succ
  have hy : (y.zeroExtend (w + 1)).toNat = y.toNat := BitVec.toNat_setWidth_of_le w.le_succ
  rw [BitVec.toNat_add_of_lt] <;> rw [hx, hy]
  omega

/-- The bit to spare of a sum is the carry out. -/
theorem carryOut_add : (x.zeroExtend (w + 1) + y.zeroExtend (w + 1)).getLsbD w =
    decide (2 ^ w ≤ x.toNat + y.toNat) := by
  rw [getLsbD_top_eq_decide, toNat_zeroExtend_add]

/-- The bit to spare of a difference, computed as `x + ~y + 1`, is set when there is no borrow. -/
theorem carryOut_sub :
    (x.zeroExtend (w + 1) + (~~~y).zeroExtend (w + 1) + 1#(w + 1)).getLsbD w =
      decide (y.toNat ≤ x.toNat) := by
  have hone : (1#(w + 1)).toNat = 1 := by simp
  have hnot : (~~~y).toNat = 2 ^ w - 1 - y.toNat := BitVec.toNat_not
  rw [getLsbD_top_eq_decide, BitVec.toNat_add_of_lt] <;>
    rw [toNat_zeroExtend_add, hone, hnot]
  · exact decide_eq_decide.mpr (by omega)
  · omega

/-- A sum without its bit to spare is the sum. -/
theorem setWidth_zeroExtend_add :
    (x.zeroExtend (w + 1) + y.zeroExtend (w + 1)).setWidth w = x + y := by
  rw [BitVec.setWidth_add _ _ w.le_succ]
  simp

/-- A difference, computed as `x + ~y + 1`, without its bit to spare is the difference. -/
theorem setWidth_zeroExtend_sub :
    (x.zeroExtend (w + 1) + (~~~y).zeroExtend (w + 1) + 1#(w + 1)).setWidth w = x - y := by
  rw [BitVec.setWidth_add _ _ w.le_succ, setWidth_zeroExtend_add, BitVec.sub_eq_add_neg,
    BitVec.neg_eq_not_add, BitVec.add_assoc]
  simp

end Adder

/-- An 8-bit addition in plain arithmetic (R142). -/
theorem addOut_eq (a b : Byte) : addOut a b =
    { result := a + b
      flags :=
        { z := some (decide (a + b = 0#8))
          dc := some (decide (16 ≤ a.toNat % 16 + b.toNat % 16))
          c := some (decide (256 ≤ a.toNat + b.toNat)) } } := by
  have hr : (a.zeroExtend 9 + b.zeroExtend 9).extractLsb' 0 8 = a + b :=
    (BitVec.setWidth_eq_extractLsb' (by decide)).symm.trans (setWidth_zeroExtend_add a b)
  have hdc := carryOut_add (a.extractLsb' 0 4) (b.extractLsb' 0 4)
  simp only [toNat_extractLsb'_eq_div_mod, Nat.pow_zero, Nat.div_one] at hdc
  have hc := carryOut_add a b
  simp only [addOut, hr, hdc, hc]
  rfl

/-- An 8-bit subtraction in plain arithmetic (R143). -/
theorem subOut_eq (a b : Byte) : subOut a b =
    { result := a - b
      flags :=
        { z := some (decide (a = b))
          dc := some (decide (b.toNat % 16 ≤ a.toNat % 16))
          c := some (decide (b.toNat ≤ a.toNat)) } } := by
  have hr : (a.zeroExtend 9 + (~~~b).zeroExtend 9 + 1#9).extractLsb' 0 8 = a - b :=
    (BitVec.setWidth_eq_extractLsb' (by decide)).symm.trans (setWidth_zeroExtend_sub a b)
  have hz : (a - b == 0#8) = decide (a = b) := decide_eq_decide.mpr sub_eq_zero
  have hdc := carryOut_sub (a.extractLsb' 0 4) (b.extractLsb' 0 4)
  simp only [toNat_extractLsb'_eq_div_mod, Nat.pow_zero, Nat.div_one] at hdc
  have hc := carryOut_sub a b
  simp only [subOut, BitVec.extractLsb'_not_of_lt (show 0 + 4 < 8 by decide), hr, hz, hdc, hc]
  rfl

/-! ### The rotations (R158, R159) -/

/-- Every bit after a rotation to the left. -/
theorem getLsbD_rlOut (c : Bool) (v : Byte) (j : Nat) : (rlOut c v).result.getLsbD j =
    if j < 1 then (BitVec.ofBool c).getLsbD j else (v.extractLsb' 0 7).getLsbD (j - 1) :=
  BitVec.getLsbD_append

/-- Every bit after a rotation to the right. -/
theorem getLsbD_rrOut (c : Bool) (v : Byte) (j : Nat) : (rrOut c v).result.getLsbD j =
    if j < 7 then (v.extractLsb' 1 7).getLsbD j else (BitVec.ofBool c).getLsbD (j - 7) :=
  BitVec.getLsbD_append

/-- The old carry enters bit 0 in a rotation to the left. -/
theorem rlOut_getLsbD_zero (c : Bool) (v : Byte) : (rlOut c v).result.getLsbD 0 = c := by
  rw [getLsbD_rlOut]
  simp

/-- The bits move up in a rotation to the left. -/
theorem rlOut_getLsbD_succ (c : Bool) (v : Byte) (j : Nat) (hj : j < 7) :
    (rlOut c v).result.getLsbD (j + 1) = v.getLsbD j := by
  simp [getLsbD_rlOut, hj]

/-- The old carry enters bit 7 in a rotation to the right. -/
theorem rrOut_getLsbD_seven (c : Bool) (v : Byte) : (rrOut c v).result.getLsbD 7 = c := by
  rw [getLsbD_rrOut]
  simp

/-- The bits move down in a rotation to the right. -/
theorem rrOut_getLsbD_of_lt (c : Bool) (v : Byte) (j : Nat) (hj : j < 7) :
    (rrOut c v).result.getLsbD j = v.getLsbD (j + 1) := by
  simp [getLsbD_rrOut, hj, Nat.add_comm]

/-! ### The word of CLRW (R148) -/

/-- The seven low bits of CLRW's word are no field. -/
theorem decode_clrw (x : BitVec 7) : decode (encodeByteFD 1#4 .w x) = .ok .clrw := by
  simp [decode, decodeByteOriented]

/-! ### Completing (R90, R140, R141) -/

section Completes

variable {i : Instr} {d : Dest} {f : BitVec 7} {s : State}

/-- A file register operation that affects a flag completes: the result is stored, an affected flag takes
the computed value, an unaffected one is unchanged (R29, R53, R141). -/
theorem completes_flagged {alu : Byte → AluOut} {y : AluOut}
    (hexec : exec i s = .next (fileOperate d f alu plainMove s))
    (hy : alu (fileValue (ea f s) s) = y) (haff : y.flags.affectsAny = true) :
    ∃ t, exec i s = .next t ∧
      StoresBesideFlags d (ea f s) y.result (readAndAdvance (ea f s) s) t ∧
      t.zero = y.flags.z.getD s.zero ∧ t.digitCarry = y.flags.dc.getD s.digitCarry ∧
      t.carry = y.flags.c.getD s.carry := by
  obtain ⟨hstate, hhigh, hflags⟩ :=
    fileOperate_flagged d f alu plainMove s y hy.symm haff fun _ _ => rfl
  exact ⟨_, hexec, ⟨hstate, hhigh⟩, hflags⟩

/-- A file register operation that affects Z alone completes: the result is stored, Z is set exactly when
the result is zero, DC and C are kept (R28, R53, R141). -/
theorem completes_zOut {op : Byte → Byte} {z : Prop} [Decidable z]
    (hexec : exec i s = .next (fileOperate d f (fun v => zOut (op v)) plainMove s))
    (hz : op (fileValue (ea f s) s) = 0#8 ↔ z) :
    ∃ t, exec i s = .next t ∧
      StoresBesideFlags d (ea f s) (op (fileValue (ea f s) s)) (readAndAdvance (ea f s) s) t ∧
      t.zero = decide z ∧ t.digitCarry = s.digitCarry ∧ t.carry = s.carry := by
  obtain ⟨t, ht, hstore, hzero, hkept⟩ := completes_flagged hexec rfl rfl
  exact ⟨t, ht, hstore, hzero.trans (decide_eq_decide.mpr hz), hkept⟩

/-- A file register operation that affects no flag completes: the result is stored, and STATUS changes
only as a destination (R29, R141). -/
theorem completes_plain {alu : Byte → AluOut} {r : Byte}
    (hexec : exec i s = .next (fileOperate d f alu plainMove s))
    (hr : alu (fileValue (ea f s) s) = plainOut r) :
    exec i s = .next (storeResult false d (ea f s) r (readAndAdvance (ea f s) s)) :=
  hexec.trans (congrArg _ (fileOperate_plain d f alu plainMove s r hr))

end Completes

/-- Writing Z alone leaves every other bit of STATUS as it is. -/
theorem getLsbD_applyTo_zOf (r v : Byte) {j : Nat} (hj : j ≠ 2) :
    ((FlagUpdate.zOf r).applyTo v).getLsbD j = v.getLsbD j := by
  rw [getLsbD_applyTo, if_neg hj]
  split_ifs with h0 h1
  · rw [h0]; rfl
  · rw [h1]; rfl
  · rfl

/-! ### The obligations -/

/-- Settles O19: a sum and a difference with one bit to spare, on the byte and on its low nibble. -/
theorem additionAndSubtractionFlags : Obligations.AdditionAndSubtractionFlags := by
  unfold Obligations.AdditionAndSubtractionFlags
  intro a b
  rw [addOut_eq, subOut_eq]
  exact ⟨rfl, rfl, rfl, rfl, rfl, rfl, rfl, rfl⟩

/-- Settles O20, by the adder's results and flags. -/
theorem addwfAndSubwfResults : Obligations.AddwfAndSubwfResults := by
  unfold Obligations.AddwfAndSubwfResults
  rintro d f s _ _ rfl rfl
  refine ⟨decode_encode (.addwf d f) rfl, decode_encode (.subwf d f) rfl, ?_, ?_⟩
  · obtain ⟨t, ht, hstore, hz, hdc, hc⟩ :=
      completes_flagged (i := .addwf d f) rfl (addOut_eq s.w (fileValue (ea f s) s)) rfl
    exact ⟨t, ht, hstore, hc, hdc, hz⟩
  · obtain ⟨t, ht, hstore, hz, hdc, hc⟩ :=
      completes_flagged (i := .subwf d f) rfl (subOut_eq (fileValue (ea f s) s) s.w) rfl
    exact ⟨t, ht, hstore, hc, hdc, hz⟩

/-- Settles O21: each affects Z alone. -/
theorem logicWithFileResults : Obligations.LogicWithFileResults := by
  unfold Obligations.LogicWithFileResults
  rintro d f s _ _ rfl rfl
  exact ⟨decode_encode (.andwf d f) rfl, decode_encode (.iorwf d f) rfl,
    decode_encode (.xorwf d f) rfl,
    completes_zOut (op := (s.w &&& ·)) rfl .rfl,
    completes_zOut (op := (s.w ||| ·)) rfl .rfl,
    completes_zOut (op := (s.w ^^^ ·)) rfl BitVec.xor_eq_zero_iff⟩

/-- Settles O22: each affects Z alone. -/
theorem unaryFileResults : Obligations.UnaryFileResults := by
  unfold Obligations.UnaryFileResults
  rintro d f s _ _ rfl rfl
  exact ⟨decode_encode (.comf d f) rfl, decode_encode (.decf d f) rfl,
    decode_encode (.incf d f) rfl, decode_encode (.movf d f) rfl,
    completes_zOut (op := (~~~·)) rfl BitVec.not_eq_comm,
    completes_zOut (op := (· - 1#8)) rfl sub_eq_zero,
    completes_zOut (op := (· + 1#8)) rfl add_eq_zero_iff_eq_neg,
    completes_zOut (op := (·)) rfl .rfl⟩

/-- Settles O23: CLRF is a file register operation, CLRW one on W alone. -/
theorem clearResults : Obligations.ClearResults := by
  unfold Obligations.ClearResults
  rintro f x s _ rfl
  refine ⟨decode_encode (.clrf f) rfl, decode_clrw x, ?_, ?_⟩
  · exact completes_zOut (op := fun _ => 0x00#8) (z := True) rfl (iff_of_true rfl trivial)
  · obtain ⟨hstate, -, hzero, -⟩ := literalOperate_spec (zOut 0x00#8) s
    exact ⟨_, rfl, hstate, hzero, fun _ hj => getLsbD_applyTo_zOf _ _ hj⟩

/-- Settles O25: the rotated byte bit by bit, and C alone affected. -/
theorem rotateResults : Obligations.RotateResults := by
  unfold Obligations.RotateResults
  rintro d f s _ _ rfl rfl
  refine ⟨decode_encode (.rlf d f) rfl, decode_encode (.rrf d f) rfl, ?_, ?_⟩
  · obtain ⟨t, ht, hstore, hz, hdc, hc⟩ := completes_flagged (i := .rlf d f) rfl rfl rfl
    exact ⟨t, _, ht, hstore, rlOut_getLsbD_zero _ _, rlOut_getLsbD_succ _ _, hc, hz, hdc⟩
  · obtain ⟨t, ht, hstore, hz, hdc, hc⟩ := completes_flagged (i := .rrf d f) rfl rfl rfl
    exact ⟨t, _, ht, hstore, rrOut_getLsbD_seven _ _, rrOut_getLsbD_of_lt _ _, hc, hz, hdc⟩

/-- Settles O24: neither affects a flag. -/
theorem movwfAndSwapfResults : Obligations.MovwfAndSwapfResults := by
  unfold Obligations.MovwfAndSwapfResults
  rintro d f s _ _ rfl rfl
  exact ⟨decode_encode (.movwf f) rfl, decode_encode (.swapf d f) rfl,
    completes_plain (d := .f) rfl rfl, completes_plain rfl rfl⟩

/-- Settles O28: the two don't-care bits of NOP's word, and the move of the program counter. -/
theorem nopOnlyAdvances : Obligations.NopOnlyAdvances := by
  unfold Obligations.NopOnlyAdvances
  exact fun _ => ⟨decode_nop 0x0000#14, decode_nop 0x0020#14, decode_nop 0x0040#14,
    decode_nop 0x0060#14, rfl⟩

end Sys2Proof.Machine
end

section
/-! PROOFS. The bit-oriented file register operations (41_bit_oriented.md R180 to R184): the byte with one
bit written, and the skip on a tested bit. -/

namespace Sys2Proof.Machine

/-- A bit number always names a bit of a byte (R180). -/
theorem getLsbD_putBit_bitNumber (v : Byte) (b : BitVec 3) (c : Bool) (j : Nat) :
    (putBit v b.toNat c).getLsbD j = if j = b.toNat then c else v.getLsbD j := by
  simp only [getLsbD_putBit, show b.toNat < 8 from b.isLt, and_true, eq_comm]

/-- A bit test skips one word exactly when the bit read has the value it skips on; a read moves neither
the program counter nor the cycle count (R183, R184). -/
theorem bitTest_eq (skipOn : Bool) (f : BitVec 7) (b : BitVec 3) (s : State) :
    bitTest skipOn f b s =
      if (fileValue (ea f s) s).getLsbD b.toNat = skipOn then
        { afterRead (ea f s) s with pc := s.pc + 2#13, cycles := s.cycles + 2 }
      else { afterRead (ea f s) s with pc := s.pc + 1#13, cycles := s.cycles + 1 } := by
  simp only [bitTest, skipNext, advance, afterRead_pc, afterRead_cycles]

/-! ### The obligations -/

/-- Settles O29: a plain file register operation whose result is the byte read with one bit written. -/
theorem bitClearAndSetResults : Obligations.BitClearAndSetResults := by
  unfold Obligations.BitClearAndSetResults
  rintro f b s _ _ rfl rfl
  exact ⟨decode_encode (.bcf f b) rfl, decode_encode (.bsf f b) rfl,
    ⟨_, completes_plain (d := .f) rfl rfl, getLsbD_putBit_bitNumber _ b false⟩,
    ⟨_, completes_plain (d := .f) rfl rfl, fun j _ => getLsbD_putBit_bitNumber _ b true j⟩⟩

/-- Settles O30: BTFSC continues in the branch in which BTFSS skips. -/
theorem bitTestResults : Obligations.BitTestResults := by
  unfold Obligations.BitTestResults
  rintro f b s _ _ rfl rfl
  refine ⟨decode_encode (.btfsc f b) rfl, decode_encode (.btfss f b) rfl,
    congrArg Host.Outcome.next ?_, congrArg Host.Outcome.next (bitTest_eq true f b s)⟩
  simp only [bitTest_eq, ← Bool.not_eq_true, ite_not]

end Sys2Proof.Machine
end

section
/-! PROOFS. The literal and control operations (42_literal_and_control.md R190 to R203): the words with
don't-care bits, the results in W, and the transfers of control. -/

namespace Sys2Proof.Machine

/-! ### Words with don't-care bits (R116, R191, R197, R199, R202) -/

/-- A literal word decodes by the four bits after its leading `11`, however its prefix is written. -/
theorem decode_prefix_append {i : Instr} {k : Byte} {p : BitVec 6} {ops : List (BitVec 4)}
    (hp : ∃ op ∈ ops, p = 0b11#2 ++ op) (hd : ∀ op ∈ ops, decode (encodeLiteral op k) = .ok i) :
    decode (p ++ k : BitVec 14) = .ok i := by
  obtain ⟨op, hop, rfl⟩ := hp
  exact hd op hop

/-! ### Completing (R190) -/

section Completes

variable {i : Instr} {s : State}

/-- A literal operation completes: W takes the result, an affected flag takes the computed value, an
unaffected one is unchanged, and nothing else changes but the program counter and the cycle count. -/
theorem completes_literal {x y : AluOut} (hexec : exec i s = .next (literalOperate x s))
    (hy : x = y) :
    ∃ t, exec i s = .next t ∧
      t = { s with w := y.result, status := t.status, pc := s.pc + 1#13, cycles := s.cycles + 1 } ∧
      t.status.extractLsb' 3 5 = s.status.extractLsb' 3 5 ∧
      t.carry = y.flags.c.getD s.carry ∧ t.digitCarry = y.flags.dc.getD s.digitCarry ∧
      t.zero = y.flags.z.getD s.zero := by
  subst hy
  obtain ⟨hstate, hhigh, hz, hdc, hc⟩ := literalOperate_spec x s
  exact ⟨_, hexec, hstate, hhigh, hc, hdc, hz⟩

/-- A literal operation that affects Z alone completes: Z is set exactly when the result is zero, and
every other bit of STATUS is kept (R28, R53). -/
theorem completes_literal_zOut {r : Byte} (hexec : exec i s = .next (literalOperate (zOut r) s)) :
    ∃ t, exec i s = .next t ∧
      t = { s with w := r, status := t.status, pc := s.pc + 1#13, cycles := s.cycles + 1 } ∧
      t.zero = decide (r = 0#8) ∧ ∀ j, j ≠ 2 → t.status.getLsbD j = s.status.getLsbD j := by
  obtain ⟨hstate, -, hzero, -⟩ := literalOperate_spec (zOut r) s
  exact ⟨_, hexec, hstate, hzero, fun _ hj => getLsbD_applyTo_zOf _ _ hj⟩

end Completes

/-! ### The obligations -/

/-- Settles O31, by the adder's results and flags. -/
theorem addlwAndSublwResults : Obligations.AddlwAndSublwResults := by
  unfold Obligations.AddlwAndSublwResults
  intro x k s
  have haddlw : ∃ op ∈ [14#4, 15#4], (0b11111#5 ++ x : BitVec 6) = 0b11#2 ++ op := by
    revert x; decide
  have hsublw : ∃ op ∈ [12#4, 13#4], (0b11110#5 ++ x : BitVec 6) = 0b11#2 ++ op := by
    revert x; decide
  exact ⟨decode_prefix_append haddlw fun _ => decode_addlw k,
    decode_prefix_append hsublw fun _ => decode_sublw k,
    completes_literal rfl (addOut_eq s.w k), completes_literal rfl (subOut_eq k s.w)⟩

/-- Settles O32: each affects Z alone. -/
theorem logicLiteralResults : Obligations.LogicLiteralResults := by
  unfold Obligations.LogicLiteralResults
  intro k s
  refine ⟨decode_encode (.andlw k) rfl, decode_encode (.iorlw k) rfl, decode_encode (.xorlw k) rfl,
    ?_⟩
  rintro _ _ (⟨rfl, rfl⟩ | ⟨rfl, rfl⟩ | ⟨rfl, rfl⟩)
  · exact completes_literal_zOut (i := .andlw k) rfl
  · exact completes_literal_zOut (i := .iorlw k) rfl
  · exact completes_literal_zOut (i := .xorlw k) rfl

/-- Settles O33: a literal operation that affects no flag. -/
theorem movlwLoadsLiteral : Obligations.MovlwLoadsLiteral := by
  unfold Obligations.MovlwLoadsLiteral
  intro x k s
  have hmovlw : ∃ op ∈ [0#4, 1#4, 2#4, 3#4], (0b1100#4 ++ x : BitVec 6) = 0b11#2 ++ op := by
    revert x; decide
  exact ⟨decode_prefix_append hmovlw fun _ => decode_movlw k,
    congrArg Host.Outcome.next (setFlags_none _)⟩

/-- Settles O34: both branch to the long target, CALL after a push of the address of the next word. -/
theorem callAndGotoResults : Obligations.CallAndGotoResults := by
  unfold Obligations.CallAndGotoResults
  intro k s
  exact ⟨decode_encode (.call k) rfl, decode_encode (.goto k) rfl, rfl,
    _, rfl, rfl, push_stackAt_self _ s, fun _ hj => push_stackAt_other _ s hj⟩

/-- Settles O35: each pops the program counter, RETLW after the load of W, RETFIE after GIE is set. -/
theorem returnResults : Obligations.ReturnResults := by
  unfold Obligations.ReturnResults
  intro x k s
  have hretlw : ∃ op ∈ [4#4, 5#4, 6#4, 7#4], (0b1101#4 ++ x : BitVec 6) = 0b11#2 ++ op := by
    revert x; decide
  exact ⟨decode_encode .ret rfl, decode_prefix_append hretlw fun _ => decode_retlw k,
    decode_encode .retfie rfl, rfl, rfl, rfl⟩

end Sys2Proof.Machine
end

section
/-! PROOFS. The compatibility instructions OPTION and TRIS (43_option_tris.md R220, R221). -/

namespace Sys2Proof.Machine

/-- Settles O37: the words are the encodings of OPTION and of TRIS 5, 6 and 7; neither instruction forms a
register file address, so each execution is one update of the state, with no case on RP0. -/
theorem optionAndTrisResults : Obligations.OptionAndTrisResults := by
  unfold Obligations.OptionAndTrisResults
  intro s
  refine ⟨decode_encode .option rfl, decode_encode (.tris 5#3) rfl, decode_encode (.tris 6#3) rfl,
    decode_encode (.tris 7#3) rfl, ?option, ?trisA, ?trisB, ?tris7⟩
  case option => exact rfl
  case trisA => exact rfl
  case trisB => exact rfl
  case tris7 => exact rfl

end Sys2Proof.Machine
end

section
/-! PROOFS. Interrupt entry and return (60_exceptions.md R238 to R242): the interrupt request after GIE is
written and after Timer0 counts, the entry as a step, and RETFIE as a step. -/

namespace Sys2Proof.Machine

/-! ### GIE and the interrupt request (R235, R236) -/

/-- GIE is bit 7 of INTCON (R36). -/
theorem putIntcon_gie (b : Bool) (s : State) : (s.putIntcon 7 b).gie = b :=
  getLsbD_putBit s.intcon 7 7 b

/-- A pending request stays pending while no enable bit and no flag is cleared; GIE takes no part in it. -/
theorem irq_mono {s t : State}
    (hcon : ∀ j < 7, s.intcon.getLsbD j = true → t.intcon.getLsbD j = true)
    (hee : s.eeif = true → t.eeif = true) (h : irq s = true) : irq t = true := by
  simp only [irq, wakeRequest, Bool.or_eq_true, Bool.and_eq_true] at h ⊢
  exact h.imp (.imp (hcon 5 (by decide)) (hcon 2 (by decide)))
    (.imp (.imp (.imp (hcon 4 (by decide)) (hcon 1 (by decide)))
      (.imp (hcon 3 (by decide)) (hcon 0 (by decide)))) (.imp (hcon 6 (by decide)) hee))

/-- Setting a bit of INTCON leaves a pending request pending. -/
theorem irq_putIntcon_true (i : Nat) {s : State} (h : irq s = true) :
    irq (s.putIntcon i true) = true := by
  refine irq_mono (s := s) (fun j _ hj => ?_) id h
  show (putBit s.intcon i true).getLsbD j = true
  rw [getLsbD_putBit, hj, ite_self]

/-! ### What the counting of Timer0 leaves alone -/

section TimerChange

variable {s t : State} (h : TimerChange s t)
include h

theorem TimerChange.pc : t.pc = s.pc := by
  obtain ⟨p, v, b, i, rfl⟩ := h
  rfl

theorem TimerChange.tos : t.tos = s.tos := by
  obtain ⟨p, v, b, i, rfl⟩ := h
  rfl

theorem TimerChange.asleep : t.asleep = s.asleep := by
  obtain ⟨p, v, b, i, rfl⟩ := h
  rfl

theorem TimerChange.gie : t.gie = s.gie := by
  obtain ⟨p, v, b, i, rfl⟩ := h
  cases b
  · rfl
  · exact getLsbD_putBit s.intcon 2 7 true

/-- Timer0 sets T0IF and never clears it, so a pending request stays pending. -/
theorem TimerChange.irq (hs : irq s = true) : irq t = true := by
  obtain ⟨p, v, b, i, rfl⟩ := h
  cases b
  · exact hs
  · exact irq_putIntcon_true 2 hs

end TimerChange

/-! ### The interrupt entry (R240) -/

/-- The top of the stack after a push is the pushed value. -/
theorem push_tos (v : ProgAddr) (s : State) : (push v s).tos = v := (popToPc_push v s).1

/-- The whole state after the entry; the push alone says what becomes of the stack. -/
theorem takeInterrupt_eq (s : State) : takeInterrupt s =
    { s with
      pc := 0x0004#13
      stack := (push s.pc s).stack
      sp := s.sp + 1#3
      intcon := s.intcon &&& 0x7F#8
      cycles := s.cycles + 2 } := rfl

/-- An awake core with an interrupt due enters it, whatever instruction stands at `pc` (R238). -/
theorem step_interrupt {s₀ : State} (ha : (runAgents s₀).asleep = false)
    (hi : interruptDue (runAgents s₀) = true) :
    step s₀ = .next (interruptStep (runAgents s₀)) := by
  simp [step, ha, hi]

/-- The entry as a step: at 0004h, the interrupted address on top of the stack, GIE clear. -/
theorem interruptStep_spec (s : State) :
    (interruptStep s).pc = 0x0004#13 ∧ (interruptStep s).tos = s.pc ∧
    (interruptStep s).gie = false := by
  have h := passCycles_change 2 (takeInterrupt s)
  exact ⟨h.pc, h.tos.trans (push_tos s.pc s), h.gie.trans (putIntcon_gie false (push s.pc s))⟩

/-- With nothing scheduled the agents leave an awake core as it is. -/
theorem runAgents_awake_nil {s : State} (ha : s.asleep = false) (hn : s.schedule = []) :
    runAgents s = s :=
  (runAgents_nil s hn).trans (wakeIfDue_awake s ha)

/-! ### The return (R241) -/

/-- A return right after the entry goes back to the interrupted address, and pops what the entry pushed. -/
theorem returnFromInterrupt_takeInterrupt (s : State) :
    (returnFromInterrupt (takeInterrupt s)).pc = s.pc ∧
    (returnFromInterrupt (takeInterrupt s)).sp = s.sp :=
  popToPc_push s.pc s

/-- RETFIE as a step: at the popped address, GIE set, no deferral, and a pending request still pending;
its cycles can only add one (R241, R246, R256). -/
theorem step_retfie {s t : State} (ha : s.asleep = false) (hn : s.schedule = [])
    (hi : interruptDue s = false) (hd : decode (fetch s) = .ok .retfie) (h : step s = .next t) :
    t.pc = s.tos ∧ t.gie = true ∧ t.deferIrq = false ∧ t.asleep = false ∧ t.schedule = [] ∧
    (irq s = true → irq t = true) := by
  have hrun : runAgents s = s := runAgents_awake_nil ha hn
  rw [step_exec (by rwa [hrun]) (by rwa [hrun]) (by rwa [hrun]), hrun] at h
  obtain rfl := Host.Outcome.next.inj h
  have hc := passCycles_change
    ((returnFromInterrupt (countSequence .retfie s)).cycles - s.cycles)
    (returnFromInterrupt (countSequence .retfie s))
  exact ⟨hc.pc, hc.gie.trans (putIntcon_gie true (countSequence .retfie s)), rfl,
    hc.asleep.trans ha, hc.schedule.trans hn,
    fun hirq => hc.irq (irq_putIntcon_true (s := countSequence .retfie s) 7 hirq)⟩

/-! ### The obligations -/

/-- Settles O46: the entry is a push under a cleared GIE, and RETFIE pops what it pushed. -/
theorem interruptEntryAndReturn : Obligations.InterruptEntryAndReturn := by
  unfold Obligations.InterruptEntryAndReturn
  rintro s _ rfl
  obtain ⟨hpc, hsp⟩ := returnFromInterrupt_takeInterrupt s
  exact ⟨takeInterrupt_eq s, push_stackAt_self s.pc s, fun _ hj => push_stackAt_other s.pc s hj,
    _, rfl, hpc, hsp, putIntcon_gie true (takeInterrupt s), rfl, rfl, rfl⟩

/-- Settles O48: RETFIE leaves GIE = 1 and the request pending with no deferral, so the step that follows
is the entry, which pushes the address just popped. -/
theorem retfieWithPendingRequestReenters : Obligations.RetfieWithPendingRequestReenters := by
  unfold Obligations.RetfieWithPendingRequestReenters
  intro s t ha hn hgie hirq hd hstep
  have hi : interruptDue s = false := by simp [interruptDue, hgie]
  obtain ⟨hpc, htgie, htdefer, hta, htn, htirq⟩ := step_retfie ha hn hi hd hstep
  have hrun : runAgents t = t := runAgents_awake_nil hta htn
  have hdue : interruptDue t = true := by simp [interruptDue, htgie, htdefer, htirq hirq]
  have hentry : step t = .next (interruptStep t) := by
    rw [step_interrupt (by rwa [hrun]) (by rwa [hrun]), hrun]
  obtain ⟨hupc, hutos, hugie⟩ := interruptStep_spec t
  exact ⟨hpc, _, hentry, hupc, hutos.trans hpc, hugie⟩

end Sys2Proof.Machine
end

section
/-! PROOFS. The watchdog time-out (60_exceptions.md R250; 70_reset_and_hazards.md R282). -/

namespace Sys2Proof.Machine

/-- A time-out awake is a Watchdog Timer Reset (R250). -/
theorem agentWdtTimeout_awake {s : State} (he : s.cfg.wdtEnabled = true) (ha : s.asleep = false) :
    agentWdtTimeout s = watchdogReset s := by
  simp [agentWdtTimeout, he, ha]

/-- A time-out asleep clears TO, wakes the core and restarts the watchdog's count (R250, R256). -/
theorem agentWdtTimeout_asleep {s : State} (he : s.cfg.wdtEnabled = true) (ha : s.asleep = true) :
    agentWdtTimeout s =
      { s.putStatus 4 false with asleep := false, wdt := 0, wdtMark := s.cycles } := by
  simp [agentWdtTimeout, he, ha]

/-- A watchdog that is not enabled does not time out. -/
theorem agentWdtTimeout_disabled {s : State} (he : s.cfg.wdtEnabled = false) :
    agentWdtTimeout s = s := by
  simp [agentWdtTimeout, he]

/-- STATUS after a Watchdog Timer Reset, `0000 1uuu` (R50, R282). -/
theorem watchdogReset_status_eq (s : State) :
    (watchdogReset s).status = (s.status &&& 0b00000111#8) ||| 0b00001000#8 := by
  show putBit (putBit (s.status &&& 0x1F#8) 4 false) 3 true = _
  apply BitVec.eq_of_getLsbD_eq
  intro j hj
  simp only [getLsbD_putBit, BitVec.getLsbD_and, BitVec.getLsbD_or]
  interval_cases j <;> simp

/-! ### The obligation -/

/-- Settles O54: the two resets differ in STATUS alone, and the three cases of a time-out exclude each
other. -/
theorem watchdogTimeoutResetsOrWakes : Obligations.WatchdogTimeoutResetsOrWakes := by
  unfold Obligations.WatchdogTimeoutResetsOrWakes
  refine ⟨?awake, ?asleep, fun _ he => agentWdtTimeout_disabled he⟩
  case awake =>
    rintro s t he ha rfl
    rw [agentStep, agentWdtTimeout_awake he ha]
    exact ⟨rfl, watchdogReset_status_eq s⟩
  case asleep =>
    rintro s t he ha rfl
    rw [agentStep, agentWdtTimeout_asleep he ha]
    rfl

end Sys2Proof.Machine
end

section
/-! PROOFS. The opcode table (30_encoding.md R118, R125, R126): the row of an instruction applies to every
word that decodes to it, and no other row does. -/

namespace Sys2Proof

/-! ### The rows of the table -/

/-- Some row of the table with the mnemonic of an instruction applies to its word. -/
theorem encodingRow_statement (i : Instr) : Laws.EncodingRow.Statement i := by
  cases i with
  | addwf d f => exact Laws.EncodingRow.addwf d f
  | andwf d f => exact Laws.EncodingRow.andwf d f
  | clrf f => exact Laws.EncodingRow.clrf f
  | clrw => exact Laws.EncodingRow.clrw
  | comf d f => exact Laws.EncodingRow.comf d f
  | decf d f => exact Laws.EncodingRow.decf d f
  | decfsz d f => exact Laws.EncodingRow.decfsz d f
  | incf d f => exact Laws.EncodingRow.incf d f
  | incfsz d f => exact Laws.EncodingRow.incfsz d f
  | iorwf d f => exact Laws.EncodingRow.iorwf d f
  | movf d f => exact Laws.EncodingRow.movf d f
  | movwf f => exact Laws.EncodingRow.movwf f
  | nop => exact Laws.EncodingRow.nop
  | rlf d f => exact Laws.EncodingRow.rlf d f
  | rrf d f => exact Laws.EncodingRow.rrf d f
  | subwf d f => exact Laws.EncodingRow.subwf d f
  | swapf d f => exact Laws.EncodingRow.swapf d f
  | xorwf d f => exact Laws.EncodingRow.xorwf d f
  | bcf f b => exact Laws.EncodingRow.bcf f b
  | bsf f b => exact Laws.EncodingRow.bsf f b
  | btfsc f b => exact Laws.EncodingRow.btfsc f b
  | btfss f b => exact Laws.EncodingRow.btfss f b
  | addlw k => exact Laws.EncodingRow.addlw k
  | andlw k => exact Laws.EncodingRow.andlw k
  | call k => exact Laws.EncodingRow.call k
  | clrwdt => exact Laws.EncodingRow.clrwdt
  | goto k => exact Laws.EncodingRow.goto k
  | iorlw k => exact Laws.EncodingRow.iorlw k
  | movlw k => exact Laws.EncodingRow.movlw k
  | retfie => exact Laws.EncodingRow.retfie
  | retlw k => exact Laws.EncodingRow.retlw k
  | ret => exact Laws.EncodingRow.ret
  | sleep => exact Laws.EncodingRow.sleep
  | sublw k => exact Laws.EncodingRow.sublw k
  | xorlw k => exact Laws.EncodingRow.xorlw k
  | option => exact Laws.EncodingRow.option
  | tris f => exact Laws.EncodingRow.tris f

/-- A row that applies fixes the word under its mask. -/
theorem OpcodeRow.applies_iff (r : OpcodeRow) (w : CodeWord) :
    r.applies w = true ↔ w &&& r.mask = r.bits := by
  simp [OpcodeRow.applies]

/-- No row looks at the don't-care bits of its instruction (R116). -/
theorem mask_and_dontCare (i : Instr) :
    ∀ r ∈ opcodeTable, r.mnemonic = i.mnemonic → r.mask &&& i.dontCare = 0#14 := by
  cases i
  case clrw | nop | movlw k | retlw k | addlw k | sublw k =>
    simp only [Instr.mnemonic, Instr.dontCare]
    decide
  all_goals exact fun _ _ _ => BitVec.and_zero

/-- The row of an instruction applies to every word that decodes to it. -/
theorem exists_row_of_decodesTo {w : CodeWord} {i : Instr} (h : DecodesTo w i) :
    ∃ r ∈ opcodeTable, r.mnemonic = i.mnemonic ∧ r.applies w = true := by
  obtain ⟨-, hwf, henc⟩ := h
  obtain ⟨r, hr, hm, happ⟩ := encodingRow_statement i hwf
  refine ⟨r, hr, hm, ?_⟩
  have hmask : ~~~i.dontCare &&& r.mask = r.mask := by
    apply BitVec.eq_of_getLsbD_eq
    intro j hj
    have hbit := congrArg (·.getLsbD j) (mask_and_dontCare i r hr hm)
    simp only [BitVec.getLsbD_and, BitVec.getLsbD_zero, BitVec.getLsbD_not, hj, decide_true,
      Bool.true_and] at hbit ⊢
    cases hrm : r.mask.getLsbD j <;> simp_all
  rw [OpcodeRow.applies_iff, henc, BitVec.and_assoc, hmask] at happ
  exact (r.applies_iff w).mpr happ

/-- Any two rows differ at a bit that both look at. -/
theorem opcodeTable_pairwise : opcodeTable.Pairwise
    (fun r q => (r.bits &&& r.mask &&& q.mask) ≠ (q.bits &&& r.mask &&& q.mask)) := by
  decide

/-- At most one row applies to a word. -/
theorem eq_of_applies {r q : OpcodeRow} {w : CodeWord} (hr : r ∈ opcodeTable)
    (hq : q ∈ opcodeTable) (har : r.applies w = true) (haq : q.applies w = true) : r = q := by
  by_contra hne
  have hsymm : Std.Symm fun r q : OpcodeRow =>
      (r.bits &&& r.mask &&& q.mask) ≠ (q.bits &&& r.mask &&& q.mask) := ⟨fun a b h e =>
    h (by simpa only [BitVec.and_assoc, BitVec.and_comm a.mask] using e.symm)⟩
  refine opcodeTable_pairwise.forall hr hq hne ?_
  rw [← (r.applies_iff w).mp har, ← (q.applies_iff w).mp haq]
  simp only [BitVec.and_assoc, BitVec.and_self, BitVec.and_comm r.mask, ← BitVec.and_assoc q.mask]

/-! ### The reserved words (R119) -/

/-- The reserved words of the no-operand group, one by one. -/
theorem noOperand_not_applies : ∀ f : BitVec 7, ReservedValue (encodeByteFD 0#4 .w f).toNat →
    ∀ r ∈ opcodeTable, r.applies (encodeByteFD 0#4 .w f) = false := by
  decide

/-- No row applies to a word of the literal opcode `1011`: each differs from it in the upper six bits. -/
theorem literal11_not_applies (k : Byte) :
    ∀ r ∈ opcodeTable, r.applies (encodeLiteral 11#4 k) = false := by
  intro r hr
  have hrow : ∀ r ∈ opcodeTable, 0x3B00#14 &&& r.mask ≠ r.bits &&& 0x3F00#14 := by decide
  have hupper : encodeLiteral 11#4 k &&& 0x3F00#14 = 0x3B00#14 := by
    change (0b11#2 ++ 11#4 ++ k) &&& (0b11#2 ++ 0b1111#4 ++ 0#8) = 0b11#2 ++ 11#4 ++ 0#8
    rw [BitVec.and_append, BitVec.and_append, BitVec.and_zero]
    rfl
  refine Bool.eq_false_iff.mpr fun happ => hrow r hr ?_
  rw [← (r.applies_iff _).mp happ, ← hupper, BitVec.and_assoc, BitVec.and_comm 0x3F00#14,
    BitVec.and_assoc]

/-- No row applies to a reserved word. -/
theorem not_applies_of_reserved (w : CodeWord) : ReservedValue w.toNat →
    ∀ r ∈ opcodeTable, r.applies w = false := by
  refine codeWord_cases (P := fun w => ReservedValue w.toNat → ∀ r ∈ opcodeTable, r.applies w = false)
    (fun op d f h => ?_) (fun op f b h => ?_) (fun op k h => ?_) (fun op k h => ?_) w
  · have hgroup : op.toNat * 2 + d.bit.toNat = 0 := by
      by_contra hne
      exact not_reservedValue_encodeByteFD f (Nat.pos_of_ne_zero hne) h
    obtain rfl : op = 0#4 := BitVec.eq_of_toNat_eq (by simp; omega)
    cases d with
    | w => exact noOperand_not_applies f h
    | f => exact absurd hgroup (by decide)
  · rw [toNat_encodeBit] at h
    omega
  · rw [toNat_encodeBranch] at h
    omega
  · obtain rfl : op = 11#4 := BitVec.eq_of_toNat_eq ((reservedValue_encodeLiteral_iff op k).mp h)
    exact literal11_not_applies k

/-! ### The obligations -/

/-- Settles O1, by the fields of each format. -/
theorem decodeOfEncodeIsIdentity : Obligations.DecodeOfEncodeIsIdentity := by
  unfold Obligations.DecodeOfEncodeIsIdentity
  exact decode_encode

/-- Settles O2: a word is reserved, and no row applies, or it decodes to an instruction whose row is the
one that applies. -/
theorem decodeFollowsOpcodeTable : Obligations.DecodeFollowsOpcodeTable := by
  unfold Obligations.DecodeFollowsOpcodeTable
  refine ⟨fun w r hr happ => ?_, fun w hnone => ?_, opcodeTable_pairwise⟩
  · obtain ⟨hres, -⟩ | ⟨-, i, hi⟩ := classified w
    · rw [not_applies_of_reserved w hres r hr] at happ
      cases happ
    · obtain ⟨q, hq, hm, haq⟩ := exists_row_of_decodesTo hi
      exact ⟨i, hi.1, eq_of_applies hr hq happ haq ▸ hm.symm⟩
  · obtain ⟨-, hw⟩ | ⟨-, i, hi⟩ := classified w
    · exact hw
    · obtain ⟨q, hq, -, haq⟩ := exists_row_of_decodesTo hi
      rw [hnone q hq] at haq
      cases haq

/-- Settles O5: the written-out words are the encodings of their instructions. -/
theorem writtenOutWordsDecode : Obligations.WrittenOutWordsDecode := by
  unfold Obligations.WrittenOutWordsDecode
  exact ⟨decode_encode (.addwf .w 0x04#7) rfl, decode_encode (.andwf .f 0x04#7) rfl,
    decode_encode (.bcf 0x0C#7 7#3) rfl, decode_encode (.call 0x123#11) rfl,
    decode_encode (.goto 0x7FF#11) rfl, decode_encode (.movwf 0x01#7) rfl,
    decode_encode (.retlw 0x41#8) rfl, decode_encode (.addlw 0x15#8) rfl,
    decode_encode .clrw rfl, decode_encode .nop rfl, decode_encode (.tris 6#3) rfl⟩

end Sys2Proof
end

section
/-! PROOFS. The register file (20_memory.md R83 to R91, 60_exceptions.md R252): the location at an address,
what reading and writing it does, STATUS as a destination, and the levels of the ports. -/

namespace Sys2Proof.Machine

/-! ### The location at an address (R25, R42, R43, R83, R84) -/

/-- The bank is bit 7 of a direct address, the field its low seven bits. -/
theorem ea_direct {f : BitVec 7} {s : State} (hf : f ≠ 0#7) :
    ea f s = (BitVec.ofBool s.rp0 ++ f : BitVec 8) := if_neg hf

/-- The field 0 selects the address in FSR. -/
theorem ea_indirect (s : State) : ea 0#7 s = s.fsr := rfl

/-- The low seven bits 0 name INDF, in either bank. -/
theorem locOf_indf : ∀ a : Byte, a.extractLsb' 0 7 = 0#7 → locOf a = .indf := by
  decide

/-- The general purpose registers stand at 0Ch to 2Fh of either bank. -/
theorem locOf_gpr : ∀ a : Byte, 0x0C ≤ (a.extractLsb' 0 7).toNat →
    (a.extractLsb' 0 7).toNat ≤ 0x2F → locOf a = .gpr (a.extractLsb' 0 7).toNat := by
  decide

/-- Nothing stands above 2Fh in either bank. -/
theorem locOf_above : ∀ a : Byte, 0x30 ≤ (a.extractLsb' 0 7).toNat → locOf a = .unimplemented := by
  decide

theorem locOf_eq_pcl_iff : ∀ a : Byte, locOf a = .pcl ↔ a = 0x02#8 ∨ a = 0x82#8 := by
  decide

theorem locOf_eq_pclath_iff : ∀ a : Byte, locOf a = .pclath ↔ a = 0x0A#8 ∨ a = 0x8A#8 := by
  decide

theorem locOf_eq_portA_iff : ∀ a : Byte, locOf a = .portA ↔ a = 0x05#8 := by
  decide

theorem locOf_eq_portB_iff : ∀ a : Byte, locOf a = .portB ↔ a = 0x06#8 := by
  decide

/-- The bank bit of an address does not take part in its low seven bits. -/
theorem low7_xor_bank : ∀ a : Byte, (a ^^^ 0x80#8).extractLsb' 0 7 = a.extractLsb' 0 7 := by
  decide

/-! ### Reading and writing a location (R86, R87, R91) -/

/-- Only a read of a port has an effect (R91). -/
theorem readEffect_of_not_port {l : Loc} (s : State) (ha : l ≠ .portA) (hb : l ≠ .portB) :
    readEffect l s = s := by
  cases l with
  | portA => exact absurd rfl ha
  | portB => exact absurd rfl hb
  | _ => rfl

/-- A general purpose register reads as its byte of data memory. -/
theorem fileValue_gpr {a : Byte} (s : State) (hlo : 0x0C ≤ (a.extractLsb' 0 7).toNat)
    (hhi : (a.extractLsb' 0 7).toNat ≤ 0x2F) :
    fileValue a s = s.ram.read (a.extractLsb' 0 7).toNat := by
  rw [fileValue, locOf_gpr a hlo hhi, readLoc]

/-- A write to a general purpose register stores its byte of data memory. -/
theorem fileWrite_gpr (affects : Bool) {a : Byte} (v : Byte) (s : State)
    (hlo : 0x0C ≤ (a.extractLsb' 0 7).toNat) (hhi : (a.extractLsb' 0 7).toNat ≤ 0x2F) :
    fileWrite affects a v s = { s with ram := s.ram.write (a.extractLsb' 0 7).toNat v } := by
  rw [fileWrite, locOf_gpr a hlo hhi, writeLoc]

/-- A write to STATUS, in either bank. -/
theorem fileWrite_status (affects : Bool) {a : Byte} (v : Byte) (s : State)
    (ha : a = 0x03#8 ∨ a = 0x83#8) :
    fileWrite affects a v s = { s with status := statusAfter affects v s.status } := by
  rcases ha with rfl | rfl <;> rfl

/-! ### The levels of the ports (R252) -/

/-- Every bit of PORTB: the level of an input, the latch of an output. -/
theorem getLsbD_pinsB (s : State) (j : Nat) (hj : j < 8) : (pinsB s).getLsbD j =
    if s.trisB.getLsbD j then (Config.pinsB s.draws).getLsbD j else s.latB.getLsbD j := by
  simp only [pinsB, BitVec.getLsbD_or, BitVec.getLsbD_and, BitVec.getLsbD_not, hj, decide_true]
  cases s.trisB.getLsbD j <;> simp

/-- RA3 to RA0: the level of an input, the latch of an output. -/
theorem getLsbD_pinsA_of_lt (s : State) (j : Nat) (hj : j < 4) : (pinsA s).getLsbD j =
    if s.trisA.getLsbD j then (Config.pinsA s.draws).getLsbD j else s.latA.getLsbD j := by
  have h4 : ¬(4 = j ∧ 4 < 5) := by omega
  have h5 : j < 5 := by omega
  simp only [pinsA, getLsbD_putBit, if_neg h4, BitVec.getLsbD_or, BitVec.getLsbD_and,
    BitVec.getLsbD_not, h5, decide_true]
  cases s.trisA.getLsbD j <;> simp

/-- RA4 is open drain: it is driven low or takes the level. -/
theorem getLsbD_pinsA_four (s : State) : (pinsA s).getLsbD 4 =
    if !s.trisA.getLsbD 4 && !s.latA.getLsbD 4 then false
    else (Config.pinsA s.draws).getLsbD 4 := by
  rw [pinsA, getLsbD_putBit, if_pos (by decide)]

/-! ### The obligations -/

/-- Settles O12: a direct address is the bank beside the field, an indirect one is FSR, and INDF through
itself is neither stored nor read. -/
theorem fileAddressFromFieldAndBank : Obligations.FileAddressFromFieldAndBank := by
  unfold Obligations.FileAddressFromFieldAndBank
  refine ⟨fun f s hf => ?direct, ea_indirect, fun f s t hbank hfsr => ?depends, fun s h => ?indf⟩
  case direct =>
    have hbit : (BitVec.ofBool s.rp0 ++ f : BitVec 8).getLsbD 7 = s.rp0 := by
      rw [BitVec.getLsbD_append]
      simp
    rw [ea_direct hf]
    exact ⟨hbit, BitVec.extractLsb'_append_eq_right⟩
  case depends => simp only [ea, State.rp0, hbank, hfsr]
  case indf =>
    have hloc : locOf (ea 0#7 s) = .indf := locOf_indf _ h
    simp only [fileValue, fileWrite, hloc]
    exact ⟨rfl, fun _ _ => rfl⟩

/-- Settles O13: the map address by address, and the reads that have an effect. -/
theorem fileReadsFollowTheMap : Obligations.FileReadsFollowTheMap := by
  unfold Obligations.FileReadsFollowTheMap
  intro s
  refine ⟨rfl, rfl, rfl, rfl, rfl, rfl, rfl, rfl, rfl, rfl, rfl, rfl, rfl, rfl, rfl, rfl, rfl, rfl,
    rfl, rfl, rfl, rfl, rfl, rfl, fun _ => fileValue_gpr s, fun a h => ?above, rfl, rfl,
    fun a hA hB => ?quiet⟩
  case above => rw [fileValue, locOf_above a h, readLoc]
  case quiet =>
    exact readEffect_of_not_port s (mt (locOf_eq_portA_iff a).mp hA) (mt (locOf_eq_portB_iff a).mp hB)

/-- Settles O14: the map address by address; PCL, FSR, PCLATH and INTCON stand in both banks. -/
theorem fileWritesFollowTheMap : Obligations.FileWritesFollowTheMap := by
  unfold Obligations.FileWritesFollowTheMap
  intro affects v s
  refine ⟨rfl, rfl, rfl, rfl, ?pcl, ?fsr, rfl, rfl, rfl, rfl, rfl, rfl, rfl, rfl, ?pclath, ?intcon,
    fun _ => fileWrite_gpr affects v s, fun a h => ?above, fun _ => ⟨rfl, rfl⟩⟩
  case pcl => rintro _ (rfl | rfl) <;> rfl
  case fsr => rintro _ (rfl | rfl) <;> rfl
  case pclath => rintro _ (rfl | rfl) <;> rfl
  case intcon => rintro _ (rfl | rfl) <;> rfl
  case above => rw [fileWrite, locOf_above a h, writeLoc]

/-- Settles O15: both addresses of a register name the same cell of data memory. -/
theorem generalPurposeRegistersAreSharedByBothBanks :
    Obligations.GeneralPurposeRegistersAreSharedByBothBanks := by
  unfold Obligations.GeneralPurposeRegistersAreSharedByBothBanks
  intro affects a b v s hwf hlo hhi
  have hsame := Memory.read_write_same s.ram (a.extractLsb' 0 7).toNat v hwf
  rw [fileWrite_gpr affects v s hlo hhi]
  refine ⟨(fileValue_gpr _ hlo hhi).trans hsame, ?other_bank, fun hblo hbhi hne => ?other_register⟩
  case other_bank =>
    have hlow := low7_xor_bank a
    rw [fileValue_gpr _ (by rwa [hlow]) (by rwa [hlow]), hlow]
    exact hsame
  case other_register =>
    rw [fileValue_gpr _ hblo hbhi, fileValue_gpr _ hblo hbhi]
    exact Memory.read_write_other _ _ (mt BitVec.eq_of_toNat_eq hne)

/-- Settles O16: STATUS after a write bit by bit, and CLRF STATUS, which affects Z. -/
theorem statusAsDestination : Obligations.StatusAsDestination := by
  unfold Obligations.StatusAsDestination
  refine ⟨?write, fun s => ?clrf⟩
  case write =>
    rintro affects a v s t ha rfl
    rw [fileWrite_status affects v s ha]
    refine ⟨rfl, fun j hj => ?_, fun j hlo hhi => ?_, fun j hj => ?_⟩
    · rw [getLsbD_statusAfter, if_neg (by omega), if_neg (by omega)]
    · rw [getLsbD_statusAfter, if_neg (by omega), if_pos (by omega)]
    · rw [getLsbD_statusAfter, if_pos (by omega)]
  case clrf =>
    obtain ⟨t, ht, ⟨-, hhigh⟩, hz, hdc, hc⟩ := completes_zOut (i := .clrf 0x03#7) (s := s)
      (op := fun _ => 0x00#8) (z := True) rfl (iff_of_true rfl trivial)
    have hbank : ea 0x03#7 s = 0x03#8 ∨ ea 0x03#7 s = 0x83#8 := by
      rw [ea_direct (by decide)]
      cases s.rp0
      · exact .inl rfl
      · exact .inr rfl
    have hbit : ∀ j, j < 5 → t.status.getLsbD (3 + j) =
        if 3 + j < 5 then s.status.getLsbD (3 + j) else false := fun j hj => by
      have hj := congrArg (·.getLsbD j) hhigh
      simp only [storeResult, fileWrite_status true _ _ hbank, BitVec.getLsbD_extractLsb',
        getLsbD_statusAfter] at hj
      simpa [readAndAdvance, *] using hj
    refine ⟨t, ht, ?_, hbit 1 (by decide), hbit 0 (by decide), hz, hdc, hc⟩
    apply BitVec.eq_of_getLsbD_eq
    intro j hj
    rw [BitVec.getLsbD_extractLsb', ← show 3 + (2 + j) = 5 + j by omega, hbit _ (by omega),
      if_neg (by omega)]
    simp

/-- Settles O17: each level bit by bit. -/
theorem portsReadLatchOrPin : Obligations.PortsReadLatchOrPin := by
  unfold Obligations.PortsReadLatchOrPin
  intro s
  refine ⟨getLsbD_pinsB s, getLsbD_pinsA_of_lt s, fun htris hlat => ?_, fun h => ?_⟩
  · rw [getLsbD_pinsA_four, htris, hlat]
    rfl
  · rw [getLsbD_pinsA_four, if_neg]
    rcases h with h | h <;> simp [h]

/-- Settles O18: the byte written back is the pins with one bit written. -/
theorem portBitInstructionsCopyPinsToLatch : Obligations.PortBitInstructionsCopyPinsToLatch := by
  unfold Obligations.PortBitInstructionsCopyPinsToLatch
  intro b s hbank
  have hea : ea 0x06#7 s = 0x06#8 := by
    rw [ea_direct (by decide), hbank]
    rfl
  obtain ⟨-, -, ⟨r, hbcf, hr⟩, ⟨r', hbsf, hr'⟩⟩ := bitClearAndSetResults 0x06#7 b s _ _ rfl rfl
  have hpins : ∀ j, j < 8 → (fileValue (ea 0x06#7 s) s).getLsbD j =
      if s.trisB.getLsbD j then (Config.pinsB s.draws).getLsbD j else s.latB.getLsbD j := by
    rw [hea]
    exact getLsbD_pinsB s
  refine ⟨⟨_, hbsf, ?_, fun j hj => ?_⟩, ⟨_, hbcf, ?_, fun j hj => ?_⟩⟩
  · rw [hea]
    rfl
  · rw [← hpins j hj, ← hr' j hj, hea]
    rfl
  · rw [hea]
    rfl
  · rw [← hpins j hj, ← hr j, hea]
    rfl

end Sys2Proof.Machine
end

section
/-! PROOFS. What an instruction leaves alone (10_state.md R23, R53; 20_memory.md R87, R90), the skip counters
(40_byte_oriented.md R151, R153), and CLRWDT and SLEEP (42_literal_and_control.md R194, R201). -/

namespace Sys2Proof.Machine

/-- An operation that affects no flag stores its result. -/
theorem fileOperate_plainOut (d : Dest) (f : BitVec 7) (op : Byte → Byte) (move : Byte → State → State)
    (s : State) : fileOperate d f (fun v => plainOut (op v)) move s =
      storeResult false d (ea f s) (op (fileValue (ea f s) s))
        (move (op (fileValue (ea f s) s)) (afterRead (ea f s) s)) :=
  fileOperate_plain d f _ move s _ rfl

/-! ### The instructions that stand by themselves -/

/-- Everything TRIS can answer (R221). -/
theorem execTris_cases {f : BitVec 3} {s t : State} (h : execTris f s = .next t) :
    (f = 5#3 ∧ t = { advance s with trisA := s.w.extractLsb' 0 5 }) ∨
    (f = 6#3 ∧ t = { advance s with trisB := s.w }) ∨ (f = 7#3 ∧ t = advance s) := by
  unfold execTris at h
  split at h
  case h_1 hf => cases h; exact .inl ⟨BitVec.eq_of_toNat_eq hf, rfl⟩
  case h_2 hf => cases h; exact .inr (.inl ⟨BitVec.eq_of_toNat_eq hf, rfl⟩)
  case h_3 hf => cases h; exact .inr (.inr ⟨BitVec.eq_of_toNat_eq hf, rfl⟩)
  case h_4 => cases h

/-- The instructions of the last shape of `Shape`. -/
abbrev StandsAlone (i : Instr) : Prop :=
  i = .nop ∨ (∃ k, i = .call k) ∨ (∃ k, i = .goto k) ∨ i = .ret ∨ (∃ k, i = .retlw k) ∨
  i = .retfie ∨ i = .clrwdt ∨ i = .sleep ∨ i = .option ∨ ∃ f, i = .tris f

/-- What an instruction that stands by itself does besides moving the program counter and the cycle count. -/
def controlEffect (i : Instr) (s : State) : State :=
  match i with
  | .call _ => push (s.pc + 1#13) s
  | .ret => { s with sp := s.sp - 1#3 }
  | .retlw k => { s with w := k, sp := s.sp - 1#3 }
  | .retfie => { s.putIntcon 7 true with sp := s.sp - 1#3 }
  | .clrwdt => ((clearWatchdog s).putStatus 4 true).putStatus 3 true
  | .sleep => { ((clearWatchdog s).putStatus 4 true).putStatus 3 false with asleep := true }
  | .option => { s with optionReg := s.w }
  | .tris f =>
    { s with
      trisA := if f = 5#3 then s.w.extractLsb' 0 5 else s.trisA
      trisB := if f = 6#3 then s.w else s.trisB }
  | _ => s

/-- An instruction that stands by itself has its effect, and moves the program counter and the cycle count. -/
theorem exec_control {i : Instr} {s t : State} (h : exec i s = .next t) (hi : StandsAlone i) :
    ∃ p c, s.cycles ≤ c ∧ t = { controlEffect i s with pc := p, cycles := c } := by
  rcases hi with rfl | ⟨k, rfl⟩ | ⟨k, rfl⟩ | rfl | ⟨k, rfl⟩ | rfl | rfl | rfl | rfl | ⟨f, rfl⟩
  iterate 9
    cases h
    exact ⟨_, _, Nat.le_add_right _ _, rfl⟩
  obtain ⟨rfl, rfl⟩ | ⟨rfl, rfl⟩ | ⟨rfl, rfl⟩ := execTris_cases h
  all_goals exact ⟨_, _, Nat.le_succ _, rfl⟩

/-- The fields such an instruction can change. -/
theorem controlEffect_eq (i : Instr) (s : State) : controlEffect i s =
    { s with
      w := (controlEffect i s).w
      stack := (controlEffect i s).stack
      sp := (controlEffect i s).sp
      status := (controlEffect i s).status
      trisA := (controlEffect i s).trisA
      trisB := (controlEffect i s).trisB
      optionReg := (controlEffect i s).optionReg
      intcon := (controlEffect i s).intcon
      wdt := (controlEffect i s).wdt
      psc := (controlEffect i s).psc
      asleep := (controlEffect i s).asleep
      wdtMark := (controlEffect i s).wdtMark } := by
  cases i <;> rfl

section ControlEffect

variable {i : Instr} (s : State)

theorem controlEffect_w (h : writesW i = false) : (controlEffect i s).w = s.w := by
  cases i with
  | retlw k => cases h
  | _ => rfl

theorem controlEffect_stack (h : ∀ k, i ≠ .call k) : (controlEffect i s).stack = s.stack := by
  cases i with
  | call k => exact absurd rfl (h k)
  | _ => rfl

theorem controlEffect_sp (hcall : ∀ k, i ≠ .call k) (hret : i ≠ .ret) (hretlw : ∀ k, i ≠ .retlw k)
    (hretfie : i ≠ .retfie) : (controlEffect i s).sp = s.sp := by
  cases i with
  | call k => exact absurd rfl (hcall k)
  | ret => exact absurd rfl hret
  | retlw k => exact absurd rfl (hretlw k)
  | retfie => exact absurd rfl hretfie
  | _ => rfl

theorem controlEffect_intcon (h : i ≠ .retfie) : (controlEffect i s).intcon = s.intcon := by
  cases i with
  | retfie => exact absurd rfl h
  | _ => rfl

theorem controlEffect_optionReg (h : i ≠ .option) : (controlEffect i s).optionReg = s.optionReg := by
  cases i with
  | option => exact absurd rfl h
  | _ => rfl

theorem controlEffect_trisA (h : i ≠ .tris 5#3) : (controlEffect i s).trisA = s.trisA := by
  cases i with
  | tris f => exact if_neg fun hf => h (by rw [hf])
  | _ => rfl

theorem controlEffect_trisB (h : i ≠ .tris 6#3) : (controlEffect i s).trisB = s.trisB := by
  cases i with
  | tris f => exact if_neg fun hf => h (by rw [hf])
  | _ => rfl

theorem controlEffect_asleep (h : i ≠ .sleep) : (controlEffect i s).asleep = s.asleep := by
  cases i with
  | sleep => exact absurd rfl h
  | _ => rfl

/-- Only CLRWDT and SLEEP touch the watchdog, the prescaler and STATUS (R45, R53). -/
theorem controlEffect_eq_of_not_clear (hclr : i ≠ .clrwdt) (hsleep : i ≠ .sleep) :
    controlEffect i s =
      { controlEffect i s with
        status := s.status, wdt := s.wdt, psc := s.psc, asleep := s.asleep, wdtMark := s.wdtMark } := by
  cases i with
  | clrwdt => exact absurd rfl hclr
  | sleep => exact absurd rfl hsleep
  | _ => rfl

theorem controlEffect_status (hclr : i ≠ .clrwdt) (hsleep : i ≠ .sleep) :
    (controlEffect i s).status = s.status := by
  rw [controlEffect_eq_of_not_clear s hclr hsleep]

end ControlEffect

/-! ### The components that only their own writes change (R87, R90) -/

/-- A location that is not the one stored to. -/
theorem ne_of_storeLoc {i : Instr} {s : State} {l l' : Loc} (hs : storeLoc i s ≠ some l)
    (hl : storeLoc i s = some l') : l' ≠ l :=
  fun e => hs (e ▸ hl)

/-- `exec_frame`, with the instructions that stand by themselves seen through `controlEffect`. -/
theorem exec_keeps {α : Type} (g : State → α) {i : Instr} {s t : State} (h : exec i s = .next t)
    (hloc : ∀ affects a v u, storeLoc i s = some (locOf a) →
      g (writeLoc affects (locOf a) v u) = g u)
    (hread : ∀ a u, g (afterRead a u) = g u)
    (hcontrol : g (controlEffect i s) = g s := by rw [controlEffect_eq])
    (hw : ∀ (u : State) v, g { u with w := v } = g u := by intros; rfl)
    (hstatus : ∀ (u : State) v, g { u with status := v } = g u := by intros; rfl)
    (hpc : ∀ (u : State) v c, g { u with pc := v, cycles := c } = g u := by intros; rfl) :
    g t = g s := by
  refine exec_frame g h hloc (fun hi => ?_) hw hstatus hpc hread
  obtain ⟨p, c, -, rfl⟩ := exec_control h hi
  exact (hpc _ p c).trans hcontrol

/-- A component held by one location, which the instruction does not store to. -/
theorem exec_keeps_of_ne {α : Type} (g : State → α) {i : Instr} {s t : State} {l : Loc}
    (h : exec i s = .next t) (hs : storeLoc i s ≠ some l)
    (hloc : ∀ (affects : Bool) {l' : Loc} (v : Byte) (u : State), l' ≠ l →
      g (writeLoc affects l' v u) = g u)
    (hread : ∀ a u, g (afterRead a u) = g u)
    (hcontrol : g (controlEffect i s) = g s := by rw [controlEffect_eq])
    (hw : ∀ (u : State) v, g { u with w := v } = g u := by intros; rfl)
    (hstatus : ∀ (u : State) v, g { u with status := v } = g u := by intros; rfl)
    (hpc : ∀ (u : State) v c, g { u with pc := v, cycles := c } = g u := by intros; rfl) :
    g t = g s :=
  exec_keeps g h (fun _ _ _ _ hl => hloc _ _ _ (ne_of_storeLoc hs hl)) hread hcontrol hw hstatus hpc

/-- A component that the locations stored to do not hold, and only a read can change. -/
theorem exec_reads {α : Type} (g : State → α) {i : Instr} {s t : State} (h : exec i s = .next t)
    (hloc : ∀ affects a v u, storeLoc i s = some (locOf a) →
      g (writeLoc affects (locOf a) v u) = g u)
    (hread : ∀ a, readAddress i s = some a → g (afterRead a s) = g s)
    (hcontrol : g (controlEffect i s) = g s := by rw [controlEffect_eq])
    (hw : ∀ (u : State) v, g { u with w := v } = g u := by intros; rfl)
    (hstatus : ∀ (u : State) v, g { u with status := v } = g u := by intros; rfl)
    (hpc : ∀ (u : State) v c, g { u with pc := v, cycles := c } = g u := by intros; rfl) :
    g t = g s := by
  have hstore : ∀ affects d a r u, (d = .f → storeLoc i s = some (locOf a)) →
      g (storeResult affects d a r u) = g u := fun affects d a r u hd => by
    cases d with
    | w => exact hw _ _
    | f => exact hloc _ _ _ _ (hd rfl)
  have hfile : ∀ d f alu, (d = .f → storeLoc i s = some (locOf (ea f s))) →
      readAddress i s = some (ea f s) → g (fileOperate d f alu plainMove s) = g s :=
    fun d f alu hd hr =>
      (hstatus _ _).trans ((hstore _ _ _ _ _ hd).trans ((hpc _ _ _).trans (hread _ hr)))
  have htest : ∀ skipOn f b, readAddress i s = some (ea f s) → g (bitTest skipOn f b s) = g s :=
    fun skipOn f b hr => by
      unfold bitTest
      dsimp only
      split <;> exact (hpc _ _ _).trans (hread _ hr)
  have hliteral : ∀ y, g (literalOperate y s) = g s := fun y =>
    (hstatus { advance s with w := y.result } _).trans ((hw (advance s) _).trans (hpc s _ _))
  have hother : StandsAlone i → g t = g s := fun hi => by
    obtain ⟨p, c, -, rfl⟩ := exec_control h hi
    exact (hpc _ p c).trans hcontrol
  cases i
  case addwf d f | andwf d f | comf d f | decf d f | incf d f | iorwf d f | movf d f | rlf d f | rrf d f
      | subwf d f | swapf d f | xorwf d f =>
    cases h
    exact hfile d f _ (fun hd => by subst hd; rfl) rfl
  case clrf f | movwf f | bcf f b | bsf f b =>
    cases h
    exact hfile .f f _ (fun _ => rfl) rfl
  case decfsz d f | incfsz d f =>
    simp only [exec, execDecfsz, execIncfsz] at h
    split at h
    · cases h
    · cases h
      rw [fileOperate_plainOut]
      refine (hstore _ _ _ _ _ fun hd => by subst hd; rfl).trans (.trans ?_ (hread _ rfl))
      unfold skipIfZero
      split <;> exact hpc _ _ _
  case btfsc f b | btfss f b =>
    cases h
    exact htest _ f b rfl
  case clrw | addlw k | andlw k | iorlw k | movlw k | sublw k | xorlw k =>
    cases h
    exact hliteral _
  all_goals exact hother (by simp [StandsAlone])

/-- W changes only by an instruction that writes it. -/
theorem exec_w {i : Instr} {s t : State} (h : exec i s = .next t) (hw : writesW i = false) :
    t.w = s.w := by
  cases exec_shape h with
  | file d f alu h _ hwd =>
    cases d with
    | w => cases hw.symm.trans hwd
    | f => subst h; exact (writeLoc_w _ _ _ _).trans (afterRead_w _ _)
  | counter d f r h _ hwd =>
    cases d with
    | w => cases hw.symm.trans hwd
    | f =>
      subst h
      refine (writeLoc_w _ _ _ _).trans (.trans ?_ (afterRead_w (ea f s) s))
      unfold skipIfZero
      split <;> rfl
  | test skipOn f b h =>
    subst h
    rw [bitTest_eq]
    split <;> exact afterRead_w _ _
  | literal y h hwl => cases hw.symm.trans hwl
  | other hi =>
    obtain ⟨p, c, -, rfl⟩ := exec_control h hi
    exact controlEffect_w s hw

/-- A read of another location than PORTB leaves the latched levels of RB7..RB4. -/
theorem afterRead_rbLatch {a : Byte} (s : State) (h : locOf a ≠ .portB) :
    (afterRead a s).rbLatch = s.rbLatch := by
  unfold afterRead
  cases hl : locOf a with
  | portB => exact absurd hl h
  | _ => rfl

/-- The location read, from the address read. -/
theorem locOf_ne_of_readLocation {i : Instr} {s : State} {a : Byte} {l : Loc}
    (h : readLocation i s ≠ some l) (ha : readAddress i s = some a) : locOf a ≠ l :=
  fun e => h (by rw [readLocation, ha, Option.map_some, e])

/-! ### STATUS (R28, R29, R53) -/

/-- TO and PD are written by CLRWDT and SLEEP alone, STATUS as a destination included. -/
theorem exec_timeOut_powerDown {i : Instr} {s t : State} (h : exec i s = .next t)
    (hclr : i ≠ .clrwdt) (hsleep : i ≠ .sleep) {j : Nat} (h3 : 3 ≤ j) (h5 : j < 5) :
    t.status.getLsbD j = s.status.getLsbD j := by
  have hflags : ∀ (u : FlagUpdate) (v : Byte), (u.applyTo v).getLsbD j = v.getLsbD j := fun u v => by
    rw [getLsbD_applyTo, if_neg (by omega), if_neg (by omega), if_neg (by omega)]
  cases exec_shape h with
  | file d f alu h =>
    subst h
    refine (hflags _ _).trans ((storeResult_timeOut_powerDown _ d _ _ _ h3 h5).trans ?_)
    exact congrArg (·.getLsbD j) (afterRead_status (ea f s) s)
  | counter d f r h =>
    subst h
    refine (storeResult_timeOut_powerDown _ d _ _ _ h3 h5).trans ?_
    unfold skipIfZero
    split <;> exact congrArg (·.getLsbD j) (afterRead_status (ea f s) s)
  | test skipOn f b h =>
    subst h
    rw [bitTest_eq]
    split <;> exact congrArg (·.getLsbD j) (afterRead_status (ea f s) s)
  | literal y h =>
    subst h
    exact hflags _ _
  | other hi =>
    obtain ⟨p, c, -, rfl⟩ := exec_control h hi
    exact congrArg (·.getLsbD j) (controlEffect_status s hclr hsleep)

/-- A destination other than STATUS leaves STATUS to the flags. -/
theorem storeResult_status {i : Instr} {d : Dest} {f : BitVec 7} {s : State}
    (hs : storeLoc i s ≠ some .status) (ha : storeAddress i s = destAddress d f s) (affects : Bool)
    (r : Byte) (u : State) : (storeResult affects d (ea f s) r u).status = u.status := by
  cases d with
  | w => rfl
  | f => exact writeLoc_status _ _ _ (ne_of_storeLoc hs (storeLoc_file ha))

/-- STATUS after an instruction that does not store to it: the listed flags are written, or CLRWDT or SLEEP
writes TO and PD. -/
theorem exec_status {i : Instr} {s t : State} (h : exec i s = .next t)
    (hs : storeLoc i s ≠ some .status) :
    (∃ u : FlagUpdate, (affectsZ i = false → u.z = none) ∧ (affectsDC i = false → u.dc = none) ∧
      (affectsC i = false → u.c = none) ∧ t.status = u.applyTo s.status) ∨
    (∃ b, t.status = putBit (putBit s.status 4 true) 3 b) := by
  have hunlisted : ∀ {o : Option Bool} {b : Bool}, o.isSome = b → b = false → o = none :=
    fun ho hb => Option.isSome_eq_false_iff.mp (ho.trans hb) |> Option.isNone_iff_eq_none.mp
  have hnone : t.status = s.status → ∃ u : FlagUpdate, (affectsZ i = false → u.z = none) ∧
      (affectsDC i = false → u.dc = none) ∧ (affectsC i = false → u.c = none) ∧
      t.status = u.applyTo s.status :=
    fun e => ⟨.none, fun _ => rfl, fun _ => rfl, fun _ => rfl, e⟩
  cases exec_shape h with
  | file d f alu h ha _ hf =>
    subst h
    obtain ⟨hz, hdc, hc⟩ := hf (fileValue (ea f s) s)
    refine .inl ⟨_, hunlisted hz, hunlisted hdc, hunlisted hc, ?_⟩
    exact congrArg (FlagUpdate.applyTo _) ((storeResult_status hs ha _ _
      (advance (afterRead (ea f s) s))).trans (afterRead_status (ea f s) s))
  | counter d f r h ha =>
    subst h
    refine .inl (hnone ((storeResult_status hs ha _ _ _).trans ?_))
    unfold skipIfZero
    split <;> exact afterRead_status _ _
  | test skipOn f b h =>
    subst h
    refine .inl (hnone ?_)
    rw [bitTest_eq]
    split <;> exact afterRead_status _ _
  | literal y h _ hf =>
    subst h
    obtain ⟨hz, hdc, hc⟩ := hf
    exact .inl ⟨y.flags, hunlisted hz, hunlisted hdc, hunlisted hc, rfl⟩
  | other hi =>
    obtain ⟨p, c, -, rfl⟩ := exec_control h hi
    by_cases hclr : i = .clrwdt
    · subst hclr
      exact .inr ⟨true, rfl⟩
    by_cases hsleep : i = .sleep
    · subst hsleep
      exact .inr ⟨false, rfl⟩
    exact .inl (hnone (controlEffect_status s hclr hsleep))

/-! ### The program counter and the cycles (R22, R144, R204, R298) -/

/-- A destination moves the program counter only if it is PCL, and then costs a cycle. -/
theorem storeResult_pc_cycles (affects : Bool) (d : Dest) (a r : Byte) (u : State) :
    (d = .f ∧ locOf a = .pcl → (storeResult affects d a r u).pc = (u.pclath ++ r : BitVec 13) ∧
      (storeResult affects d a r u).cycles = u.cycles + 1) ∧
    (¬(d = .f ∧ locOf a = .pcl) → (storeResult affects d a r u).pc = u.pc ∧
      (storeResult affects d a r u).cycles = u.cycles) := by
  constructor
  · rintro ⟨rfl, hl⟩
    simp only [storeResult, fileWrite, hl]
    exact ⟨rfl, rfl⟩
  · intro hne
    cases d with
    | w => exact ⟨rfl, rfl⟩
    | f =>
      have hl : locOf a ≠ .pcl := fun e => hne ⟨rfl, e⟩
      exact ⟨writeLoc_pc _ _ _ hl, writeLoc_cycles _ _ _ hl⟩

/-- PCL reads as the low byte of the next address (R22). -/
theorem fileValue_pcl {a : Byte} (s : State) (h : locOf a = .pcl) :
    fileValue a s = (s.pc + 1#13).extractLsb' 0 8 := by
  rw [fileValue, h, readLoc]

/-- A file register operation that does not skip: the next address in one cycle, or a write of PCL in two. -/
theorem fileOperate_pc_cycles {i : Instr} {d : Dest} {f : BitVec 7} {alu : Byte → AluOut} {s t : State}
    (ht : t = fileOperate d f alu plainMove s) (ha : storeAddress i s = destAddress d f s)
    (hbyte : d = .f → ∀ v, storedByte i v s = some (alu v).result) :
    ((storeLoc i s ≠ some .pcl → t.pc = s.pc + 1#13) ∧
      (storeLoc i s = some .pcl → ∃ r, storedByte i ((s.pc + 1#13).extractLsb' 0 8) s = some r ∧
        t.pc = (s.pclath ++ r : BitVec 13))) ∧
    t.cycles = s.cycles + if storeLoc i s = some .pcl then 2 else 1 := by
  have hpcl : storeLoc i s = some .pcl ↔ d = .f ∧ locOf (ea f s) = .pcl := by
    rw [storeLoc, ha]
    cases d <;> simp [destAddress]
  let y := alu (fileValue (ea f s) s)
  obtain ⟨hwrite, hkeep⟩ := storeResult_pc_cycles y.flags.affectsAny d (ea f s) y.result
    (advance (afterRead (ea f s) s))
  subst ht
  simp only [advance_pc, advance_cycles, advance_pclath, afterRead_pc, afterRead_cycles,
    afterRead_pclath] at hwrite hkeep
  by_cases hl : storeLoc i s = some .pcl
  · obtain ⟨hpc, hcycles⟩ := hwrite (hpcl.mp hl)
    obtain ⟨hd, hpcl'⟩ := hpcl.mp hl
    rw [if_pos hl]
    refine ⟨⟨fun hne => absurd hl hne, fun _ => ⟨y.result, ?_, hpc⟩⟩, hcycles⟩
    rw [hbyte hd, ← fileValue_pcl s hpcl']
  · obtain ⟨hpc, hcycles⟩ := hkeep (mt hpcl.mpr hl)
    rw [if_neg hl]
    exact ⟨⟨fun _ => hpc, fun h => absurd h hl⟩, hcycles⟩

/-- Going on to the next word in one cycle, or skipping it in two (R144). -/
def SkipsOrNot (s t : State) : Prop :=
  (t.pc = s.pc + 1#13 ∧ t.cycles = s.cycles + 1) ∨ (t.pc = s.pc + 2#13 ∧ t.cycles = s.cycles + 2)

/-- The cycles of a skip or not, told from the program counter (R298). -/
theorem SkipsOrNot.pc_cycles {s t : State} (h : SkipsOrNot s t) :
    (t.pc = s.pc + 1#13 ∨ t.pc = s.pc + 2#13) ∧
    t.cycles = s.cycles + if t.pc = s.pc + 2#13 then 2 else 1 := by
  have hne : s.pc + 1#13 ≠ s.pc + 2#13 := by simp
  obtain ⟨hpc, hcycles⟩ | ⟨hpc, hcycles⟩ := h
  · exact ⟨.inl hpc, by rw [hpc, if_neg hne, hcycles]⟩
  · exact ⟨.inr hpc, by rw [hpc, if_pos rfl, hcycles]⟩

/-- BTFSC and BTFSS skip or not. -/
theorem bitTest_skips (skipOn : Bool) (f : BitVec 7) (b : BitVec 3) (s : State) :
    SkipsOrNot s (bitTest skipOn f b s) := by
  rw [bitTest_eq]
  split
  · exact .inr ⟨rfl, rfl⟩
  · exact .inl ⟨rfl, rfl⟩

/-- DECFSZ and INCFSZ with a destination other than PCL skip or not. -/
theorem counter_skips {d : Dest} {a : Byte} (r : Byte) (s : State) (hp : d = .f → locOf a ≠ .pcl) :
    SkipsOrNot s (storeResult false d a r (skipIfZero r (afterRead a s))) := by
  obtain ⟨hpc, hcycles⟩ := (storeResult_pc_cycles false d a r (skipIfZero r (afterRead a s))).2
    fun h => hp h.1 h.2
  rw [SkipsOrNot, hpc, hcycles]
  unfold skipIfZero
  split
  · exact .inr ⟨congrArg (· + 2#13) (afterRead_pc a s), congrArg (· + 2) (afterRead_cycles a s)⟩
  · exact .inl ⟨congrArg (· + 1#13) (afterRead_pc a s), congrArg (· + 1) (afterRead_cycles a s)⟩

/-- DECFSZ and INCFSZ that complete: the plain operation with its skip, to a destination other than PCL. -/
theorem exec_counter {i : Instr} {d : Dest} {f : BitVec 7} {op : Byte → Byte} {s t : State}
    (hexec : exec i s = if d = .f ∧ locOf (ea f s) = .pcl then .refused (.reserved (encode i))
      else .next (fileOperate d f (fun v => plainOut (op v)) skipIfZero s))
    (h : exec i s = .next t) : SkipsOrNot s t := by
  rw [hexec] at h
  split at h
  · cases h
  · next hne =>
    cases h
    rw [fileOperate_plainOut]
    exact counter_skips _ s fun hd hl => hne ⟨hd, hl⟩

/-- The target of the program counter and the cycles of every instruction. -/
theorem exec_pc_cycles {i : Instr} {s t : State} (h : exec i s = .next t) :
    PcTargetAllowed i s t ∧ t.cycles = s.cycles + cyclesOf i s t := by
  cases i
  case addwf d f =>
    cases h
    exact fileOperate_pc_cycles rfl rfl fun hd v => by subst hd; rw [addOut_eq]; rfl
  case subwf d f =>
    cases h
    exact fileOperate_pc_cycles rfl rfl fun hd v => by subst hd; rw [subOut_eq]; rfl
  case andwf d f | comf d f | decf d f | incf d f | iorwf d f | movf d f | rlf d f | rrf d f | swapf d f
      | xorwf d f =>
    cases h
    exact fileOperate_pc_cycles rfl rfl fun hd v => by subst hd; rfl
  case clrf f | movwf f | bcf f b | bsf f b =>
    cases h
    exact fileOperate_pc_cycles (d := .f) rfl rfl fun _ _ => rfl
  case decfsz d f => exact (exec_counter (op := (· - 1#8)) rfl h).pc_cycles
  case incfsz d f => exact (exec_counter (op := (· + 1#8)) rfl h).pc_cycles
  case btfsc f b | btfss f b =>
    cases h
    exact (bitTest_skips _ f b s).pc_cycles
  case tris f =>
    obtain ⟨rfl, rfl⟩ | ⟨rfl, rfl⟩ | ⟨rfl, rfl⟩ := execTris_cases h
    all_goals exact ⟨rfl, rfl⟩
  all_goals
    cases h
    exact ⟨rfl, rfl⟩

/-! ### The obligations -/

/-- Settles O26: a plain operation whose destination is not PCL, with the skip on a zero result. -/
theorem skipCounterResults : Obligations.SkipCounterResults := by
  unfold Obligations.SkipCounterResults
  rintro d f s _ _ rfl rfl hdest
  have hpcl : ¬(d = .f ∧ locOf (ea f s) = .pcl) := by
    rintro ⟨rfl, hl⟩
    obtain hw | ⟨hlo, hhi⟩ := hdest
    · cases hw
    · exact ((locOf_eq_pcl_iff _).mp hl).elim hlo hhi
  have hskip : ∀ (r : Byte) (z : Prop) [Decidable z], (r = 0#8 ↔ z) →
      skipIfZero r (afterRead (ea f s) s) =
        if z then { afterRead (ea f s) s with pc := s.pc + 2#13, cycles := s.cycles + 2 }
        else { afterRead (ea f s) s with pc := s.pc + 1#13, cycles := s.cycles + 1 } :=
    fun r z _ hz => by
      simp only [skipIfZero, skipNext, advance, afterRead_pc, afterRead_cycles, hz]
  refine ⟨decode_encode (.decfsz d f) rfl, decode_encode (.incfsz d f) rfl, ?_, ?_⟩
  · rw [exec, execDecfsz, if_neg hpcl, fileOperate_plainOut,
      hskip _ _ sub_eq_zero]
  · rw [exec, execIncfsz, if_neg hpcl, fileOperate_plainOut,
      hskip _ (_ = 0xFF#8) add_eq_zero_iff_eq_neg]

/-- Settles O27: the refused word is the encoding of the instruction. -/
theorem skipCountersRefusePclDestination : Obligations.SkipCountersRefusePclDestination := by
  unfold Obligations.SkipCountersRefusePclDestination
  intro f s ha
  have hpcl : Dest.f = .f ∧ locOf (ea f s) = .pcl := ⟨rfl, (locOf_eq_pcl_iff _).mpr ha⟩
  exact ⟨if_pos hpcl, if_pos hpcl⟩

/-- Settles O43, shape by shape. -/
theorem programCounterTargets : Obligations.ProgramCounterTargets := by
  unfold Obligations.ProgramCounterTargets
  exact fun _ _ _ h => (exec_pc_cycles h).1

/-- Settles O44, shape by shape. -/
theorem instructionCycleCounts : Obligations.InstructionCycleCounts := by
  unfold Obligations.InstructionCycleCounts
  exact fun _ _ _ h => (exec_pc_cycles h).2

/-- Settles O40: what an instruction writes of STATUS beside a store to it. -/
theorem instructionsWriteOnlyTheirFlags : Obligations.InstructionsWriteOnlyTheirFlags := by
  unfold Obligations.InstructionsWriteOnlyTheirFlags
  intro i s t h
  refine ⟨fun hclr hsleep => ⟨exec_timeOut_powerDown h hclr hsleep (by decide) (by decide),
    exec_timeOut_powerDown h hclr hsleep (by decide) (by decide)⟩, fun hs => ?_⟩
  simp only [State.zero, State.digitCarry, State.carry]
  obtain ⟨u, hz, hdc, hc, ht⟩ | ⟨b, ht⟩ := exec_status h hs
  · have hhigh : t.status.extractLsb' 3 5 = s.status.extractLsb' 3 5 := ht ▸ applyTo_high u _
    refine ⟨BitVec.eq_of_getLsbD_eq fun j hj => ?_, fun hi => ?_, fun hi => ?_, fun hi => ?_⟩
    · have hbit := congrArg (·.getLsbD (2 + j)) hhigh
      simpa [← Nat.add_assoc, hj, show 2 + j < 5 by omega] using hbit
    · rw [ht, getLsbD_applyTo, hz hi]; rfl
    · rw [ht, getLsbD_applyTo, hdc hi]; rfl
    · rw [ht, getLsbD_applyTo, hc hi]; rfl
  · have hbit : ∀ j, j ≠ 3 → j ≠ 4 → t.status.getLsbD j = s.status.getLsbD j := fun j h3 h4 => by
      rw [ht, getLsbD_putBit, if_neg (by omega), getLsbD_putBit, if_neg (by omega)]
    refine ⟨BitVec.eq_of_getLsbD_eq fun j hj => ?_, fun _ => hbit 2 (by decide) (by decide),
      fun _ => hbit 1 (by decide) (by decide), fun _ => hbit 0 (by decide) (by decide)⟩
    rw [BitVec.getLsbD_extractLsb', BitVec.getLsbD_extractLsb', hbit _ (by omega) (by omega)]

/-- Settles O41: a write of another location leaves the byte, and no location is a byte of the data EEPROM or
of program memory. -/
theorem instructionsChangeOnlyTheStoredByte : Obligations.InstructionsChangeOnlyTheStoredByte := by
  unfold Obligations.InstructionsChangeOnlyTheStoredByte
  intro i s t h
  have hee : t.ee = s.ee := exec_keeps State.ee h (fun _ _ _ _ _ => writeLoc_ee _ _ _ _) afterRead_ee
  have hprog : t.prog = s.prog := exec_keeps State.prog h (fun _ _ _ _ _ => writeLoc_prog _ _ _ _) afterRead_prog
  refine ⟨fun n hn => ?_, fun n => by rw [hee], fun n => by rw [hprog]⟩
  exact exec_keeps (·.ram.read n) h
    (fun _ _ _ _ hl => writeLoc_ram_read _ _ _ (ne_of_storeLoc hn hl))
    fun a u => congrArg (·.read n) (afterRead_ram a u)

/-- Settles O42, component by component: a write of another location leaves it alone, and so do the
instructions that stand by themselves but for those named. -/
theorem instructionsChangeOnlyTheirRegisters :
    Obligations.InstructionsChangeOnlyTheirRegisters := by
  unfold Obligations.InstructionsChangeOnlyTheirRegisters
  intro i s t h
  refine ⟨exec_w h,
    fun hs => exec_keeps_of_ne State.fsr h hs writeLoc_fsr afterRead_fsr,
    fun hs => exec_keeps_of_ne State.pclath h hs writeLoc_pclath afterRead_pclath,
    fun hs hi => exec_keeps_of_ne State.intcon h hs writeLoc_intcon afterRead_intcon
      (controlEffect_intcon s hi),
    fun hs hi => exec_keeps_of_ne State.optionReg h hs writeLoc_optionReg afterRead_optionReg
      (controlEffect_optionReg s hi),
    fun hs hi => exec_keeps_of_ne State.trisA h hs writeLoc_trisA afterRead_trisA
      (controlEffect_trisA s hi),
    fun hs hi => exec_keeps_of_ne State.trisB h hs writeLoc_trisB afterRead_trisB
      (controlEffect_trisB s hi),
    fun hs => exec_keeps_of_ne State.latA h hs writeLoc_latA afterRead_latA,
    fun hs => exec_keeps_of_ne State.latB h hs writeLoc_latB afterRead_latB,
    fun hs => ⟨exec_keeps_of_ne State.tmr0 h hs writeLoc_tmr0 afterRead_tmr0,
      exec_keeps_of_ne State.t0Inhibit h hs writeLoc_t0Inhibit afterRead_t0Inhibit,
      fun hclr hsleep => exec_keeps_of_ne State.psc h hs writeLoc_psc afterRead_psc
        (by rw [controlEffect_eq_of_not_clear s hclr hsleep])⟩,
    fun hs => exec_keeps_of_ne State.eeadr h hs writeLoc_eeadr afterRead_eeadr,
    fun hs hs' => exec_keeps State.eedata h (fun _ _ _ _ hl =>
      writeLoc_eedata _ _ _ (ne_of_storeLoc hs hl) (ne_of_storeLoc hs' hl)) afterRead_eedata,
    fun hs => ⟨exec_keeps_of_ne State.eecon1 h hs writeLoc_eecon1 afterRead_eecon1,
      exec_keeps_of_ne State.eeAddr h hs writeLoc_eeAddr afterRead_eeAddr,
      exec_keeps_of_ne State.eeData h hs writeLoc_eeData afterRead_eeData⟩,
    fun hs hs' => exec_keeps State.eeUnlock h (fun _ _ _ _ hl =>
      writeLoc_eeUnlock _ _ _ (ne_of_storeLoc hs hl) (ne_of_storeLoc hs' hl)) afterRead_eeUnlock,
    fun hr => exec_reads State.rbLatch h (fun _ _ _ _ _ => writeLoc_rbLatch _ _ _ _)
      fun _ ha => afterRead_rbLatch s (locOf_ne_of_readLocation hr ha),
    fun hA hB hs => exec_reads State.draws h
      (fun _ _ _ _ hl => writeLoc_draws _ _ _ (ne_of_storeLoc hs hl)) fun _ ha =>
        congrArg State.draws (readEffect_of_not_port s (locOf_ne_of_readLocation hA ha)
          (locOf_ne_of_readLocation hB ha)),
    fun hcall => exec_keeps State.stack h (fun _ _ _ _ _ => writeLoc_stack _ _ _ _) afterRead_stack
      (controlEffect_stack s hcall),
    fun hcall hret hretlw hretfie => exec_keeps State.sp h (fun _ _ _ _ _ => writeLoc_sp _ _ _ _)
      afterRead_sp (controlEffect_sp s hcall hret hretlw hretfie),
    fun hclr hsleep =>
      have hcontrol := controlEffect_eq_of_not_clear s hclr hsleep
      ⟨exec_keeps State.wdt h (fun _ _ _ _ _ => writeLoc_wdt _ _ _ _) afterRead_wdt
        (by rw [hcontrol]),
      exec_keeps State.wdtMark h (fun _ _ _ _ _ => writeLoc_wdtMark _ _ _ _) afterRead_wdtMark
        (by rw [hcontrol])⟩,
    fun hsleep => exec_keeps State.asleep h (fun _ _ _ _ _ => writeLoc_asleep _ _ _ _)
      afterRead_asleep (controlEffect_asleep s hsleep),
    exec_keeps State.deferIrq h (fun _ _ _ _ _ => writeLoc_deferIrq _ _ _ _) afterRead_deferIrq,
    exec_keeps State.cfg h (fun _ _ _ _ _ => writeLoc_cfg _ _ _ _) afterRead_cfg,
    exec_keeps State.schedule h (fun _ _ _ _ _ => writeLoc_schedule _ _ _ _) afterRead_schedule,
    exec_keeps State.eeSequence h (fun _ _ _ _ _ => writeLoc_eeSequence _ _ _ _)
      afterRead_eeSequence⟩

/-- Settles O39: an instruction that changes PCLATH stores to it, at one of its two addresses. -/
theorem onlyExplicitWritesChangePclath : Obligations.OnlyExplicitWritesChangePclath := by
  unfold Obligations.OnlyExplicitWritesChangePclath
  refine ⟨fun i s t h hne => ?_, fun _ => rfl, fun _ _ => rfl, fun _ => rfl⟩
  obtain ⟨-, -, hpclath, -⟩ := instructionsChangeOnlyTheirRegisters i s t h
  have hs : storeLoc i s = some .pclath := by
    by_contra hs
    exact hne (hpclath hs)
  obtain ⟨a, ha, hl⟩ := Option.map_eq_some_iff.mp hs
  exact ⟨a, ha, (locOf_eq_pclath_iff a).mp hl⟩

/-- Settles O38: a file register operation that stores the sum at PCL. -/
theorem computedJumpTarget : Obligations.ComputedJumpTarget := by
  unfold Obligations.ComputedJumpTarget
  intro s
  have hexec : exec (.addwf .f 0x02#7) s =
    .next (fileOperate .f 0x02#7 (fun v => addOut s.w v) plainMove s) := rfl
  have hstore : storeLoc (.addwf .f 0x02#7) s = some .pcl := by
    change some (locOf (ea 0x02#7 s)) = _
    rw [ea_direct (by decide)]
    cases s.rp0 <;> rfl
  obtain ⟨⟨-, htarget⟩, hcycles⟩ := exec_pc_cycles hexec
  obtain ⟨r, hr, hpc⟩ := htarget hstore
  obtain rfl : s.w + (s.pc + 1#13).extractLsb' 0 8 = r := Option.some.inj hr
  obtain ⟨hw, -, hpclath, -⟩ := instructionsChangeOnlyTheirRegisters _ s _ hexec
  have hram := exec_keeps State.ram hexec
    (fun _ a _ _ hl => by rw [writeLoc_ram, Option.some.inj (hl.symm.trans hstore)])
    afterRead_ram
  refine ⟨_, hexec, ?_, ?_, ?_, hw rfl, hpclath (by rw [hstore]; nofun), hram⟩
  · rw [hpc]
    exact BitVec.extractLsb'_append_eq_left
  · rw [hpc]
    exact BitVec.extractLsb'_append_eq_right
  · rw [hcycles, cyclesOf, if_pos hstore]

/-- Settles O36: TO and PD written one after the other. -/
theorem clrwdtAndSleepResults : Obligations.ClrwdtAndSleepResults := by
  unfold Obligations.ClrwdtAndSleepResults
  intro s
  have hclrwdt : putBit (putBit s.status 4 true) 3 true = s.status ||| 0b00011000#8 :=
    BitVec.or_assoc _ _ _
  refine ⟨decode_encode .clrwdt rfl, decode_encode .sleep rfl, ?_, rfl⟩
  rw [← hclrwdt]
  rfl

end Sys2Proof.Machine
end

section
/-! PROOFS. The step (00_scope.md R11): its answers, and what every step keeps. -/

namespace Sys2Proof.Machine

/-! ### The answers of an instruction (R230, R231) -/

/-- DECFSZ and INCFSZ are refused, by their word, exactly when their destination is PCL. -/
theorem exec_counter_answers {i : Instr} {d : Dest} {f : BitVec 7} {s u : State}
    (hexec : exec i s = if d = .f ∧ locOf (ea f s) = .pcl then .refused (.reserved (encode i))
      else .next u) :
    (∃ t, exec i s = .next t) ∨
    (exec i s = .refused (.reserved (encode i)) ∧ d = .f ∧ (ea f s = 0x02#8 ∨ ea f s = 0x82#8)) := by
  by_cases hpcl : d = .f ∧ locOf (ea f s) = .pcl
  · exact .inr ⟨hexec.trans (if_pos hpcl), hpcl.1, (locOf_eq_pcl_iff _).mp hpcl.2⟩
  · exact .inl ⟨u, hexec.trans (if_neg hpcl)⟩

/-- An instruction answers a next state, or is a skip counter whose destination is PCL and refuses its
word. -/
theorem exec_answers (i : Instr) (s : State) (hwf : i.wellFormed = true) :
    (∃ t, exec i s = .next t) ∨
    (exec i s = .refused (.reserved (encode i)) ∧ i.dontCare = 0#14 ∧
      ∃ f, (i = .decfsz .f f ∨ i = .incfsz .f f) ∧ (ea f s = 0x02#8 ∨ ea f s = 0x82#8)) := by
  cases i
  case decfsz d f =>
    exact (exec_counter_answers rfl).imp_right fun ⟨hr, hd, ha⟩ =>
      ⟨hr, rfl, f, .inl (by rw [hd]), ha⟩
  case incfsz d f =>
    exact (exec_counter_answers rfl).imp_right fun ⟨hr, hd, ha⟩ =>
      ⟨hr, rfl, f, .inr (by rw [hd]), ha⟩
  case tris f =>
    have hf : f = 5#3 ∨ f = 6#3 ∨ f = 7#3 := by
      revert f; decide
    rcases hf with rfl | rfl | rfl
    all_goals exact .inl ⟨_, rfl⟩
  all_goals exact .inl ⟨_, rfl⟩

/-! ### What no agent step changes -/

/-- The fields that no agent step changes, a reset included. -/
abbrev AgentFrame (s t : State) : Prop :=
  t.w = s.w ∧ t.ram = s.ram ∧ t.prog = s.prog ∧ t.cfg = s.cfg ∧ t.cycles = s.cycles

/-- No agent step changes W, data memory, program memory, the configuration or the cycle count. -/
theorem agentStep_frame (e : AgentStep) (s : State) : AgentFrame s (agentStep e s) := by
  have htimer : ∀ {t}, TimerChange s t → AgentFrame s t := by
    rintro _ ⟨p, v, b, h, rfl⟩
    exact ⟨rfl, rfl, rfl, rfl, rfl⟩
  have hself : AgentFrame s s := ⟨rfl, rfl, rfl, rfl, rfl⟩
  cases e with
  | tmr0Tick => rw [agentStep, agentTmr0]; split; exacts [htimer (incTmr0_change s), hself]
  | t0ckiEdge rising => rw [agentStep, agentT0cki]; split; exacts [htimer (countTmr0_change s), hself]
  | prescalerTick => rw [agentStep, agentPrescaler]; split <;> exact hself
  | wdtTick => rw [agentStep, agentWdtTick]; split <;> exact hself
  | wdtTimeout => rw [agentStep, agentWdtTimeout]; split_ifs <;> exact hself
  | intEdge rising => rw [agentStep, agentIntEdge]; split <;> exact hself
  | portBChange levels => rw [agentStep, agentPortBChange]; split <;> exact hself
  | eeWriteDone => rw [agentStep, eeWriteDone]; split <;> exact hself
  | mclr => exact hself

/-- A wake-up changes only the sleep and the deferral. -/
theorem wakeIfDue_eq (s : State) : wakeIfDue s =
    { s with asleep := (wakeIfDue s).asleep, deferIrq := (wakeIfDue s).deferIrq } := by
  unfold wakeIfDue
  split <;> rfl

/-- What each agent step and each wake-up keeps, and the schedule does not matter for, the agents keep. -/
theorem runAgents_induction (P : State → Prop) (hschedule : ∀ s es, P s → P { s with schedule := es })
    (hwake : ∀ s, P s → P (wakeIfDue s)) (hagent : ∀ e s, P s → P (agentStep e s)) {s : State}
    (h : P s) : P (runAgents s) :=
  agentSteps_induction P hwake hagent _ _ (hschedule s _ h)

/-- The agents leave these fields alone. -/
theorem runAgents_frame (s : State) : AgentFrame s (runAgents s) := by
  refine runAgents_induction (AgentFrame s) (fun _ _ h => h) (fun u h => ?_) (fun e u h => ?_)
    ⟨rfl, rfl, rfl, rfl, rfl⟩
  · rw [wakeIfDue_eq]
    exact h
  · obtain ⟨hw, hram, hprog, hcfg, hcycles⟩ := h
    obtain ⟨hw', hram', hprog', hcfg', hcycles'⟩ := agentStep_frame e u
    exact ⟨hw'.trans hw, hram'.trans hram, hprog'.trans hprog, hcfg'.trans hcfg,
      hcycles'.trans hcycles⟩

/-! ### The invariant (R42, R44, R81, R256, R258 to R260) -/

/-- The part of the invariant that an instruction keeps whatever the instructions before it were. -/
abbrev State.Sound (s : State) : Prop :=
  s.ram.wf = true ∧ s.ram.within 0x0C 0x30 = true ∧ s.ee.wf = true ∧ s.ee.within 0 64 = true ∧
  s.prog.wf = true ∧ s.prog.within 0 1024 = true ∧ s.rd = false ∧ s.eeUnlock ≠ 3#2 ∧
  s.wdtMark ≤ s.cycles

/-- The invariant is that part, the count of the unlock sequence, and no deferral asleep. -/
theorem inv_iff (s : State) : s.Inv ↔
    s.Sound ∧ s.SequenceAgrees ∧ (s.deferIrq = true → s.asleep = false) := by
  constructor
  · rintro ⟨hrw, hri, hew, hei, hpw, hpi, hrd, hu, hseq, hdefer, hmark⟩
    exact ⟨⟨hrw, hri, hew, hei, hpw, hpi, hrd, hu, hmark⟩, hseq, hdefer⟩
  · rintro ⟨⟨hrw, hri, hew, hei, hpw, hpi, hrd, hu, hmark⟩, hseq, hdefer⟩
    exact ⟨hrw, hri, hew, hei, hpw, hpi, hrd, hu, hseq, hdefer, hmark⟩

/-- The passing of cycles keeps the invariant, which Timer0 takes no part in. -/
theorem TimerChange.inv {s t : State} (h : TimerChange s t) (hs : s.Inv) : t.Inv := by
  obtain ⟨p, v, b, i, rfl⟩ := h
  exact hs

/-- The count 0 of the unlock sequence agrees with every state. -/
theorem sequenceAgrees_zero {s : State} (h : s.eeSequence = 0#3) : s.SequenceAgrees := by
  refine ⟨by rw [h]; decide, ?_, ?_, ?_, ?_⟩ <;> exact fun h' => absurd (h.symm.trans h') (by decide)

/-- A byte written inside the data EEPROM keeps it canonical and inside its address space. -/
theorem ee_write_sound {m : Memory 8} (a : BitVec 6) (v : Byte)
    (h : m.wf = true ∧ m.within 0 64 = true) :
    (m.write a.toNat v).wf = true ∧ (m.write a.toNat v).within 0 64 = true :=
  ⟨Memory.wf_write m _ v h.1, Memory.within_write m _ v h.2 (Nat.zero_le _) a.isLt⟩

/-- A reset inside a run keeps the invariant. -/
theorem otherReset_inv (status : Byte) {s : State} (h : s.Inv) : (otherReset status s).Inv := by
  obtain ⟨hrw, hri, hew, hei, hpw, hpi, -, -, -, -, -⟩ := h
  have hee : (otherReset status s).ee.wf = true ∧ (otherReset status s).ee.within 0 64 = true := by
    simp only [otherReset]
    split
    · exact ee_write_sound s.eeAddr _ ⟨hew, hei⟩
    · exact ⟨hew, hei⟩
  exact ⟨hrw, hri, hee.1, hee.2, hpw, hpi, getLsbD_putBit _ 3 0 _,
    (by decide : 0#2 ≠ 3#2), sequenceAgrees_zero rfl, fun _ => rfl, Nat.le_refl _⟩

/-- The completion of a data EEPROM write keeps the invariant. -/
theorem eeWriteDone_inv {s : State} (h : s.Inv) : (eeWriteDone s).Inv := by
  unfold eeWriteDone
  split
  · obtain ⟨hrw, hri, hew, hei, hpw, hpi, hrd, hu, hseq, hdefer, hmark⟩ := h
    obtain ⟨hew', hei'⟩ := ee_write_sound s.eeAddr s.eeData ⟨hew, hei⟩
    have hrd' : (putBit (putBit s.eecon1 1 false) 4 true).getLsbD 0 = false := by
      rw [getLsbD_putBit, if_neg (by decide), getLsbD_putBit, if_neg (by decide)]
      exact hrd
    exact ⟨hrw, hri, hew', hei', hpw, hpi, hrd', hu, hseq, hdefer, hmark⟩
  · exact h

/-- A watchdog time-out keeps the invariant. -/
theorem agentWdtTimeout_inv {s : State} (h : s.Inv) : (agentWdtTimeout s).Inv := by
  unfold agentWdtTimeout
  split_ifs
  · obtain ⟨hrw, hri, hew, hei, hpw, hpi, hrd, hu, hseq, -, -⟩ := h
    exact ⟨hrw, hri, hew, hei, hpw, hpi, hrd, hu, hseq, fun _ => rfl, Nat.le_refl _⟩
  · exact otherReset_inv _ h
  · exact h

/-- Every agent step keeps the invariant. -/
theorem agentStep_inv (e : AgentStep) {s : State} (h : s.Inv) : (agentStep e s).Inv := by
  cases e with
  | tmr0Tick => rw [agentStep, agentTmr0]; split; exacts [(incTmr0_change s).inv h, h]
  | t0ckiEdge rising => rw [agentStep, agentT0cki]; split; exacts [(countTmr0_change s).inv h, h]
  | prescalerTick => rw [agentStep, agentPrescaler]; split <;> exact h
  | wdtTick => rw [agentStep, agentWdtTick]; split <;> exact h
  | wdtTimeout => exact agentWdtTimeout_inv h
  | intEdge rising => rw [agentStep, agentIntEdge]; split <;> exact h
  | portBChange levels => rw [agentStep, agentPortBChange]; split <;> exact h
  | eeWriteDone => exact eeWriteDone_inv h
  | mclr => exact otherReset_inv _ h

/-- A wake-up keeps the invariant: it defers an interrupt of an awake core. -/
theorem wakeIfDue_inv {s : State} (h : s.Inv) : (wakeIfDue s).Inv := by
  unfold wakeIfDue
  split
  · obtain ⟨hsound, hseq, -⟩ := (inv_iff s).mp h
    exact (inv_iff _).mpr ⟨hsound, hseq, fun _ => rfl⟩
  · exact h

/-- The agents keep the invariant. -/
theorem runAgents_inv {s : State} (h : s.Inv) : (runAgents s).Inv :=
  runAgents_induction State.Inv (fun _ _ h => h) (fun _ => wakeIfDue_inv)
    (fun e _ => agentStep_inv e) h

/-! ### An instruction and the invariant -/

/-- A general purpose register stands at 0Ch to 2Fh. -/
theorem gpr_range {a : Byte} {n : Nat} (h : locOf a = .gpr n) : 0x0C ≤ n ∧ n < 0x30 := by
  have hrange : ∀ a : Byte, (match locOf a with
      | .gpr n => decide (0x0C ≤ n ∧ n < 0x30)
      | _ => true) = true := by
    decide
  have ha := hrange a
  rw [h] at ha
  exact of_decide_eq_true ha

/-- A store to the register file keeps the sound part of the invariant. -/
theorem writeLoc_sound (affects : Bool) (a v : Byte) {u : State} (h : u.Sound) :
    (writeLoc affects (locOf a) v u).Sound := by
  obtain ⟨hrw, hri, hew, hei, hpw, hpi, hrd, hu, hmark⟩ := h
  cases hl : locOf a with
  | gpr n =>
    obtain ⟨hlo, hhi⟩ := gpr_range hl
    exact ⟨Memory.wf_write _ _ _ hrw, Memory.within_write _ _ _ hri hlo hhi, hew, hei, hpw, hpi, hrd,
      hu, hmark⟩
  | eecon1 =>
    obtain ⟨⟨e, d, x, y, z, n, hw, hx⟩, hrd'⟩ := writeEecon1_change v u
    have hrd'' := hrd' hrd
    rw [writeLoc]
    rw [hw] at hrd'' ⊢
    refine ⟨hrw, hri, hew, hei, hpw, hpi, hrd'', ?_, hmark⟩
    rcases hx with rfl | rfl
    · exact hu
    · exact (by decide : 0#2 ≠ 3#2)
  | eecon2 =>
    refine ⟨hrw, hri, hew, hei, hpw, hpi, hrd, ?_, hmark⟩
    simp only [writeLoc, writeEecon2]
    split_ifs <;> decide
  | pcl => exact ⟨hrw, hri, hew, hei, hpw, hpi, hrd, hu, Nat.le_succ_of_le hmark⟩
  | _ => exact ⟨hrw, hri, hew, hei, hpw, hpi, hrd, hu, hmark⟩

/-- Every instruction keeps the sound part of the invariant. -/
theorem exec_sound {i : Instr} {s t : State} (h : exec i s = .next t) (hs : s.Sound) : t.Sound := by
  have hadvance : ∀ {u : State} p n, u.Sound → State.Sound { u with pc := p, cycles := u.cycles + n } :=
    fun p n ⟨hrw, hri, hew, hei, hpw, hpi, hrd, hu, hmark⟩ =>
      ⟨hrw, hri, hew, hei, hpw, hpi, hrd, hu, Nat.le_add_right_of_le hmark⟩
  have hread : ∀ {u : State} a, u.Sound → (afterRead a u).Sound := fun {u} a hu => by
    unfold afterRead
    cases locOf a <;> exact hu
  have hstore : ∀ affects d a r {u : State}, u.Sound → (storeResult affects d a r u).Sound :=
    fun affects d a r _ hu => by
      cases d with
      | w => exact hu
      | f => exact writeLoc_sound affects a r hu
  cases exec_shape h with
  | file d f alu h =>
    subst h
    exact hstore _ d (ea f s) _ (hadvance _ 1 (hread (ea f s) hs))
  | counter d f r h =>
    subst h
    refine hstore _ d (ea f s) _ ?_
    unfold skipIfZero
    split
    · exact hadvance _ 2 (hread (ea f s) hs)
    · exact hadvance _ 1 (hread (ea f s) hs)
  | test skipOn f b h =>
    subst h
    unfold bitTest
    dsimp only
    split
    · exact hadvance _ 2 (hread (ea f s) hs)
    · exact hadvance _ 1 (hread (ea f s) hs)
  | literal y h =>
    subst h
    exact hadvance (s.pc + 1#13) 1 hs
  | other hi =>
    obtain ⟨p, c, hc, rfl⟩ := exec_control h hi
    obtain ⟨hrw, hri, hew, hei, hpw, hpi, hrd, hu, hmark⟩ := hs
    rw [controlEffect_eq]
    refine ⟨hrw, hri, hew, hei, hpw, hpi, hrd, hu, ?_⟩
    cases i with
    | clrwdt => exact hc
    | sleep => exact hc
    | _ => exact Nat.le_trans hmark hc

/-- With Bank 1 selected the field 09h is EECON2. -/
theorem exec_movwf_eecon2 {s : State} (hbank : s.rp0 = true) :
    exec (.movwf 0x09#7) s = .next (writeEecon2 s.w (advance s)) := by
  have hea : ea 0x09#7 s = 0x89#8 := by
    rw [ea_direct (by decide), hbank]
    rfl
  rw [exec, execMovwf, fileOperate_plainOut, hea]
  rfl

/-- Every instruction keeps the count of the unlock sequence in agreement with W and `ee_unlock`
(R260; log 12). -/
theorem exec_sequenceAgrees {i : Instr} {s t : State} (h : exec i (countSequence i s) = .next t)
    (hs : s.SequenceAgrees) : t.SequenceAgrees := by
  obtain ⟨-, h1, h2, h3, -⟩ := hs
  have hcount : t.eeSequence = sequenceAfter i s :=
    exec_keeps State.eeSequence h (fun _ _ _ _ _ => writeLoc_eeSequence _ _ _ _)
      afterRead_eeSequence
  unfold sequenceAfter at hcount
  split_ifs at hcount with hi1 hi2 hi3 hi4 hi5
  · subst hi1
    cases h
    simp only [State.SequenceAgrees, hcount]
    exact ⟨by decide, fun _ => rfl, nofun, nofun, nofun⟩
  · obtain ⟨rfl, hbank, hseq⟩ := hi2
    cases (exec_movwf_eecon2 (s := countSequence _ s) hbank).symm.trans h
    have hunlock : (writeEecon2 s.w (advance s)).eeUnlock = 1#2 := by rw [h1 hseq]; rfl
    simp only [State.SequenceAgrees, hcount]
    exact ⟨by decide, nofun, fun _ => hunlock, nofun, nofun⟩
  · obtain ⟨rfl, hseq⟩ := hi3
    cases h
    simp only [State.SequenceAgrees, hcount]
    exact ⟨by decide, nofun, nofun, fun _ => ⟨rfl, h2 hseq⟩, nofun⟩
  · obtain ⟨rfl, hbank, hseq⟩ := hi4
    cases (exec_movwf_eecon2 (s := countSequence _ s) hbank).symm.trans h
    obtain ⟨hw, hu⟩ := h3 hseq
    have hunlock : (writeEecon2 s.w (advance s)).eeUnlock = 2#2 := by
      simp only [writeEecon2, advance_eeUnlock, hw, hu]
      decide
    simp only [State.SequenceAgrees, hcount]
    exact ⟨by decide, nofun, nofun, nofun, fun _ => hunlock⟩
  · simp only [State.SequenceAgrees, hcount]
    exact ⟨by decide, nofun, nofun, nofun, nofun⟩
  · exact sequenceAgrees_zero hcount

/-- The interrupt entry keeps the invariant: it breaks the unlock sequence. -/
theorem interruptStep_inv {s : State} (h : s.Inv) : (interruptStep s).Inv := by
  obtain ⟨⟨hrw, hri, hew, hei, hpw, hpi, hrd, hu, hmark⟩, hseq, hdefer⟩ := (inv_iff s).mp h
  have hentry : (takeInterrupt s).Inv :=
    ⟨hrw, hri, hew, hei, hpw, hpi, hrd, hu, hseq, hdefer, Nat.le_add_right_of_le hmark⟩
  obtain ⟨hsound, -, hdefer'⟩ := (inv_iff _).mp ((passCycles_change 2 (takeInterrupt s)).inv hentry)
  exact (inv_iff _).mpr ⟨hsound, sequenceAgrees_zero rfl, hdefer'⟩

/-- One instruction keeps the invariant: it ends a deferral. -/
theorem endStep_inv {i : Instr} {s u : State} (h : s.Inv) (hx : exec i (countSequence i s) = .next u) :
    (endStep s u).Inv := by
  obtain ⟨hsound, hseq, -⟩ := (inv_iff s).mp h
  have hsound' := exec_sound hx hsound
  have hseq' := exec_sequenceAgrees hx hseq
  have hu : State.Inv { u with deferIrq := false } := (inv_iff _).mpr ⟨hsound', hseq', nofun⟩
  obtain ⟨p, v, b, c, ht⟩ := passCycles_change (u.cycles - s.cycles) u
  rw [endStep, ht]
  exact hu

/-! ### The obligations -/

/-- Settles O10: the agents keep the invariant, and so do the interrupt entry and an instruction, which the
unlock sequence is counted before. -/
theorem stepKeepsInvariant : Obligations.StepKeepsInvariant := by
  unfold Obligations.StepKeepsInvariant
  intro s t hs h
  obtain ⟨-, rfl⟩ | ⟨-, -, rfl⟩ | ⟨-, -, i, u, -, hx, rfl⟩ := step_cases h
  · exact runAgents_inv hs
  · exact interruptStep_inv (runAgents_inv hs)
  · exact endStep_inv (runAgents_inv hs) hx

/-- Settles O7: a word that decodes is a well-formed instruction's, which answers or is a refused skip
counter. -/
theorem stepAnswersNextOrRefusesTheFetchedWord :
    Obligations.StepAnswersNextOrRefusesTheFetchedWord := by
  unfold Obligations.StepAnswersNextOrRefusesTheFetchedWord
  intro s₀
  cases ha : (runAgents s₀).asleep with
  | true => exact .inl ⟨runAgents s₀, by simp [step, ha]⟩
  | false =>
  cases hi : interruptDue (runAgents s₀) with
  | true => exact .inl ⟨_, step_interrupt ha hi⟩
  | false =>
  obtain ⟨-, hd⟩ | ⟨-, i, hd, hwf, henc⟩ := classified (fetch (runAgents s₀))
  · exact .inr ⟨step_refused_of_decode_error ha hi hd, rfl, rfl, .inl hd⟩
  · have hstep := step_exec ha hi hd
    obtain ⟨t, hx⟩ | ⟨hx, hdc, f, hcounter, hpcl⟩ := exec_answers i (countSequence i (runAgents s₀)) hwf
    · exact .inl ⟨_, by rw [hstep, hx]⟩
    · rw [hdc] at henc
      have hword : encode i = fetch (runAgents s₀) := henc.trans BitVec.and_allOnes
      refine .inr ⟨by rw [hstep, hx, hword], rfl, rfl, .inr ⟨f, ?_, hpcl⟩⟩
      rcases hcounter with rfl | rfl
      · exact .inl hd
      · exact .inr hd

/-- Settles O11: neither the agents, nor an interrupt entry, nor an instruction writes either. -/
theorem stepNeverWritesProgramMemory : Obligations.StepNeverWritesProgramMemory := by
  unfold Obligations.StepNeverWritesProgramMemory
  intro s t h
  have htimer : ∀ {u v}, TimerChange u v → v.prog = u.prog ∧ v.cfg = u.cfg := by
    rintro _ _ ⟨p, v, b, i, rfl⟩
    exact ⟨rfl, rfl⟩
  obtain ⟨-, -, hprog, hcfg, -⟩ := runAgents_frame s
  rw [← hprog, ← hcfg]
  obtain ⟨-, rfl⟩ | ⟨-, -, rfl⟩ | ⟨-, -, i, u, -, hx, rfl⟩ := step_cases h
  · exact ⟨rfl, rfl⟩
  · obtain ⟨hp, hc⟩ := htimer (passCycles_change 2 (takeInterrupt (runAgents s)))
    exact ⟨hp, hc⟩
  · obtain ⟨hp, hc⟩ := htimer (passCycles_change (u.cycles - (runAgents s).cycles) u)
    have hp' := exec_keeps State.prog hx (fun _ _ _ _ _ => writeLoc_prog _ _ _ _) afterRead_prog
    have hc' := exec_keeps State.cfg hx (fun _ _ _ _ _ => writeLoc_cfg _ _ _ _) afterRead_cfg
    exact ⟨hp.trans hp', hc.trans hc'⟩

/-- Settles O6, by `step_exec`. -/
theorem stepExecutesDecodedInstruction : Obligations.StepExecutesDecodedInstruction := by
  unfold Obligations.StepExecutesDecodedInstruction
  intro s₀ i ha hi hd
  have hstep := step_exec ha hi hd
  refine ⟨fun t hx => ?_, fun r hx => ?_⟩
  · rw [hstep, hx]
    rfl
  · rw [hstep, hx]

/-- Settles O8: the fields of the reset state. -/
theorem powerOnResetValues : Obligations.PowerOnResetValues := by
  unfold Obligations.PowerOnResetValues
  decide

/-- Settles O9: the reset state is concrete. -/
theorem invariantHoldsAtReset : Obligations.InvariantHoldsAtReset := by
  unfold Obligations.InvariantHoldsAtReset
  decide

end Sys2Proof.Machine
end

section
/-! PROOFS. The stack as a circular buffer (10_state.md R24), and when an interrupt is taken
(60_exceptions.md R235, R238). -/

namespace Sys2Proof.Machine

/-! ### Several pushes (R24) -/

/-- Every push moves the pointer by one. -/
theorem pushAll_sp (vs : List ProgAddr) (s : State) :
    (pushAll vs s).sp = s.sp + BitVec.ofNat 3 vs.length := by
  induction vs generalizing s with
  | nil => exact (BitVec.add_zero s.sp).symm
  | cons v vs ih =>
    rw [pushAll, ih, List.length_cons, ← BitVec.ofNat_add_ofNat, BitVec.add_comm (BitVec.ofNat 3 _),
      ← BitVec.add_assoc]
    rfl

/-- The entry `j` places above the old pointer after at most eight pushes: the pushed value, or what stood
there. -/
theorem pushAll_stackAt (vs : List ProgAddr) (s : State) (hlen : vs.length ≤ 8) (j : Nat) (hj : j < 8) :
    (pushAll vs s).stackAt (s.sp + BitVec.ofNat 3 j) =
      if h : j < vs.length then vs[j] else s.stackAt (s.sp + BitVec.ofNat 3 j) := by
  induction vs generalizing s j with
  | nil => rfl
  | cons v vs ih =>
    have hrest : vs.length ≤ 7 := Nat.le_of_succ_le_succ hlen
    have hsp : (push v s).sp = s.sp + 1#3 := rfl
    cases j with
    | zero =>
      have hwrap : s.sp + BitVec.ofNat 3 0 = (push v s).sp + BitVec.ofNat 3 7 := by
        rw [hsp, BitVec.add_assoc]
        rfl
      rw [pushAll, hwrap, ih (push v s) (by omega) 7 (by omega), dif_neg (by omega), ← hwrap,
        dif_pos (show 0 < (v :: vs).length from Nat.succ_pos _), List.getElem_cons_zero]
      exact (congrArg _ (BitVec.add_zero s.sp)).trans (push_stackAt_self v s)
    | succ j =>
      have hnext : s.sp + BitVec.ofNat 3 (j + 1) = (push v s).sp + BitVec.ofNat 3 j := by
        rw [hsp, BitVec.add_assoc, Nat.add_comm, ← BitVec.ofNat_add_ofNat]
      have hne : (push v s).sp + BitVec.ofNat 3 j ≠ s.sp := by
        rw [← hnext]
        intro h
        have hzero : (j + 1) % 2 ^ 3 = 0 := congrArg BitVec.toNat (add_eq_left.mp h)
        omega
      rw [pushAll, hnext, ih (push v s) (by omega) j (by omega), push_stackAt_other v s hne]
      simp only [List.length_cons, Nat.add_lt_add_iff_right, List.getElem_cons_succ]

/-! ### The interrupt request (R235, R238) -/

/-- The request in terms of the bits of INTCON and EECON1 (R235). -/
theorem wakeRequest_iff (s : State) : wakeRequest s = true ↔
    (s.intcon.getLsbD 4 = true ∧ s.intcon.getLsbD 1 = true) ∨
    (s.intcon.getLsbD 3 = true ∧ s.intcon.getLsbD 0 = true) ∨
    (s.intcon.getLsbD 6 = true ∧ s.eecon1.getLsbD 4 = true) := by
  simp only [wakeRequest, Bool.or_eq_true, Bool.and_eq_true, or_assoc]
  rfl

/-- An interrupt is due when GIE = 1, a request stands and no deferral is in force (R238, R256). -/
theorem interruptDue_iff (s : State) : interruptDue s = true ↔
    s.gie = true ∧ s.deferIrq = false ∧
      ((s.intcon.getLsbD 5 = true ∧ s.intcon.getLsbD 2 = true) ∨ wakeRequest s = true) := by
  simp only [interruptDue, irq, Bool.and_eq_true, Bool.or_eq_true, Bool.not_eq_true']
  rw [and_right_comm, and_assoc]
  rfl

/-! ### The obligations -/

/-- Settles O45: the eight entries above the old pointer are the pushed values in order, and the pointer is
back where it was. -/
theorem stackIsACircularBufferOfEight : Obligations.StackIsACircularBufferOfEight := by
  unfold Obligations.StackIsACircularBufferOfEight
  rintro s v x _ rfl
  have hlen : v.toList.length = 8 := v.length_toList
  have hsp : (pushAll v.toList s).sp = s.sp := by
    rw [pushAll_sp, hlen]
    exact BitVec.add_zero s.sp
  have hentry : ∀ j (h : j < 8), (pushAll v.toList s).stackAt (s.sp + BitVec.ofNat 3 j) = v[j] :=
    fun j h => by
      rw [pushAll_stackAt _ s (Nat.le_of_eq hlen) j h, dif_pos (hlen.symm ▸ h), Vector.getElem_toList]
  have hbelow : ∀ j, j < 8 → s.sp - 1#3 - BitVec.ofNat 3 j = s.sp + BitVec.ofNat 3 (7 - j) := by
    intro j hj
    apply BitVec.eq_of_toNat_eq
    simp only [BitVec.toNat_sub, BitVec.toNat_add, BitVec.toNat_ofNat]
    omega
  refine ⟨hsp, fun j h => ?_, push_stackAt_self x _, ?_, fun j hj => push_stackAt_other x _ hj,
    popToPc_push x s⟩
  · rw [hsp, hbelow j h, hentry (7 - j) (by omega)]
  · rw [hsp, ← hentry 0 (by omega)]
    exact congrArg _ (BitVec.add_zero s.sp).symm

/-- Settles O47: the request bit by bit, and the step of an awake core with an interrupt due. -/
theorem interruptIsTakenWhenEnabledAndRequested :
    Obligations.InterruptIsTakenWhenEnabledAndRequested := by
  unfold Obligations.InterruptIsTakenWhenEnabledAndRequested
  rintro s₀ _ rfl ha
  refine ⟨?_, step_interrupt ha⟩
  rw [interruptDue_iff, wakeRequest_iff]
  rfl

end Sys2Proof.Machine
end

section
/-! PROOFS. Timer0 (60_exceptions.md R246 to R248): one count, the cycles while the count is held, still,
or running, without and with the prescaler. -/

namespace Sys2Proof.Machine

/-! ### One count -/

/-- With the prescaler unassigned every input counts (R246). -/
theorem countTmr0_unassigned {s : State} (h : s.psa = true) : countTmr0 s = incTmr0 s := by
  simp [countTmr0, h]

/-- The prescaler counts every input, and TMR0 when it comes round (R37, R246). -/
theorem countTmr0_assigned {s : State} (h : s.psa = false) : countTmr0 s =
    if (s.psc + 1#8).toNat % 2 ^ (s.ps + 1) = 0 then incTmr0 { s with psc := s.psc + 1#8 }
    else { s with psc := s.psc + 1#8 } := by
  simp only [countTmr0, h, Bool.false_eq_true, if_false]

/-- T0IF is set when TMR0 goes from FFh to 00h (R248). -/
theorem incTmr0_t0if (s : State) : (incTmr0 s).t0if = (s.t0if || decide (s.tmr0 = 0xFF#8)) := by
  simp only [incTmr0, State.t0if]
  split <;> simp [*, getLsbD_putBit]

/-- TMR0 passes FFh in one count and `n` more exactly when it does in the count or in those after it. -/
theorem passes_succ (b : Bool) (v : Byte) (n : Nat) :
    ((b || decide (v = 0xFF#8)) || decide (256 ≤ (v + 1#8).toNat + n)) =
      (b || decide (256 ≤ v.toNat + (n + 1))) := by
  rw [Bool.or_assoc, ← Bool.decide_or]
  refine congrArg _ (decide_eq_decide.mpr ?_)
  rw [← BitVec.toNat_inj, BitVec.toNat_add, BitVec.toNat_ofNat, BitVec.toNat_ofNat]
  omega

/-- One and `n` more. -/
theorem add_one_add_ofNat (v : Byte) (n : Nat) :
    v + 1#8 + BitVec.ofNat 8 n = v + BitVec.ofNat 8 (n + 1) := by
  rw [BitVec.add_assoc, Nat.add_comm, ← BitVec.ofNat_add_ofNat]

/-! ### One cycle, and several -/

/-- While the count is held a cycle only takes from the holding (log 21). -/
theorem timerCycle_held {s : State} (h : s.t0Inhibit ≠ 0#2) :
    timerCycle s = { s with t0Inhibit := s.t0Inhibit - 1#2 } := if_pos h

/-- In counter mode and asleep a cycle counts nothing (R246, R256). -/
theorem timerCycle_still {s : State} (h : s.asleep = true ∨ s.t0cs = true) (hi : s.t0Inhibit = 0#2) :
    timerCycle s = s := by
  rw [timerCycle, if_neg (not_not_intro hi), if_pos]
  simpa using h

/-- In timer mode a cycle is one input. -/
theorem timerCycle_running {s : State} (ha : s.asleep = false) (hc : s.t0cs = false)
    (hi : s.t0Inhibit = 0#2) : timerCycle s = countTmr0 s := by
  simp [timerCycle, ha, hc, hi]

/-- Cycles one after another. -/
theorem timerCycles_add (m n : Nat) (s : State) :
    timerCycles (m + n) s = timerCycles n (timerCycles m s) := by
  induction m generalizing s with
  | zero => rw [Nat.zero_add, timerCycles]
  | succ m ih => rw [Nat.succ_add, timerCycles, timerCycles, ih]

/-- A held count less one. -/
theorem toNat_sub_one {i : BitVec 2} (h : i ≠ 0#2) : (i - 1#2).toNat = i.toNat - 1 := by
  revert i; decide

/-- The holding runs out, and nothing else happens, while nothing counts. -/
theorem timerCycles_still (n : Nat) {s : State} (h : s.asleep = true ∨ s.t0cs = true) :
    timerCycles n s = { s with t0Inhibit := BitVec.ofNat 2 (s.t0Inhibit.toNat - n) } := by
  induction n generalizing s with
  | zero => rw [Nat.sub_zero, BitVec.ofNat_toNat, BitVec.setWidth_eq, timerCycles]
  | succ n ih =>
    rw [timerCycles]
    by_cases hi : s.t0Inhibit = 0#2
    · rw [timerCycle_still h hi, ih h, hi, BitVec.toNat_ofNat, Nat.zero_mod, Nat.zero_sub, Nat.zero_sub]
    · rw [timerCycle_held hi, ih (by exact h), toNat_sub_one hi, Nat.sub_sub, Nat.add_comm 1 n]

/-- The holding runs out, and nothing else happens, while it lasts. -/
theorem timerCycles_held (n : Nat) {s : State} (h : n ≤ s.t0Inhibit.toNat) :
    timerCycles n s = { s with t0Inhibit := BitVec.ofNat 2 (s.t0Inhibit.toNat - n) } := by
  induction n generalizing s with
  | zero => rw [Nat.sub_zero, BitVec.ofNat_toNat, BitVec.setWidth_eq, timerCycles]
  | succ n ih =>
    have hi : s.t0Inhibit ≠ 0#2 := fun e => by
      rw [e] at h
      exact absurd h (Nat.not_succ_le_zero n)
    have hrest : n ≤ (s.t0Inhibit - 1#2).toNat := by
      rw [toNat_sub_one hi]
      exact Nat.le_sub_one_of_lt h
    rw [timerCycles, timerCycle_held hi, ih hrest, toNat_sub_one hi, Nat.sub_sub, Nat.add_comm 1 n]

/-- What `n` cycles make of a running Timer0 when TMR0 counts `m` times and the prescaler ends at `p`. -/
abbrev Counted (s t : State) (m : Nat) (p : Byte) : Prop :=
  t.tmr0 = s.tmr0 + BitVec.ofNat 8 m ∧ t.t0if = (s.t0if || decide (256 ≤ s.tmr0.toNat + m)) ∧
  t.psc = p ∧ t.t0Inhibit = 0#2

/-- No count. -/
theorem counted_zero {s : State} (hi : s.t0Inhibit = 0#2) : Counted s s 0 s.psc :=
  ⟨(BitVec.add_zero s.tmr0).symm, by rw [decide_eq_false (by omega), Bool.or_false], rfl, hi⟩

/-- A count before the others. -/
theorem counted_succ {s t : State} {m : Nat} {p : Byte} (h : Counted (incTmr0 s) t m p) :
    Counted s t (m + 1) p := by
  obtain ⟨hv, hf, hp, hi⟩ := h
  refine ⟨hv.trans (add_one_add_ofNat s.tmr0 m), ?_, hp, hi⟩
  rw [hf, incTmr0_t0if]
  exact passes_succ _ _ _

/-- In timer mode with the prescaler unassigned TMR0 counts every cycle (R246, R248). -/
theorem timerCycles_unassigned (n : Nat) {s : State} (ha : s.asleep = false) (hc : s.t0cs = false)
    (hi : s.t0Inhibit = 0#2) (hp : s.psa = true) : Counted s (timerCycles n s) n s.psc := by
  induction n generalizing s with
  | zero => exact counted_zero hi
  | succ n ih =>
    rw [timerCycles, timerCycle_running ha hc hi, countTmr0_unassigned hp]
    exact counted_succ (ih (s := incTmr0 s) ha hc hi hp)

/-- The prescaler's modulus divides its range. -/
theorem modulus_dvd (s : State) : 2 ^ (s.ps + 1) ∣ 2 ^ 8 :=
  Nat.pow_dvd_pow 2 (Nat.succ_le_of_lt (s.optionReg.extractLsb' 0 3).isLt)

/-- The prescaler within its modulus after one count. -/
theorem succ_mod_eq (x q : Nat) (hq : 0 < q) :
    (x + 1) % q = if x % q + 1 = q then 0 else x % q + 1 := by
  have hlt := Nat.mod_lt x hq
  rw [← Nat.mod_add_mod]
  split
  · next h => rw [h, Nat.mod_self]
  · exact Nat.mod_eq_of_lt (by omega)

/-- In timer mode with the prescaler assigned TMR0 counts whenever the prescaler comes round (R246, R248). -/
theorem timerCycles_assigned (n : Nat) {s : State} (ha : s.asleep = false) (hc : s.t0cs = false)
    (hi : s.t0Inhibit = 0#2) (hp : s.psa = false) :
    Counted s (timerCycles n s) ((s.psc.toNat % 2 ^ (s.ps + 1) + n) / 2 ^ (s.ps + 1))
      (s.psc + BitVec.ofNat 8 n) := by
  induction n generalizing s with
  | zero =>
    have hpos : 0 < 2 ^ (s.ps + 1) := Nat.two_pow_pos _
    rw [Nat.add_zero, Nat.div_eq_of_lt (Nat.mod_lt _ hpos), BitVec.add_zero]
    exact counted_zero hi
  | succ n ih =>
    have hpos : 0 < 2 ^ (s.ps + 1) := Nat.two_pow_pos _
    have hnext := succ_mod_eq s.psc.toNat _ hpos
    have hbyte : (s.psc + 1#8).toNat % 2 ^ (s.ps + 1) = (s.psc.toNat + 1) % 2 ^ (s.ps + 1) := by
      rw [BitVec.toNat_add]
      exact Nat.mod_mod_of_dvd _ (modulus_dvd s)
    rw [timerCycles, timerCycle_running ha hc hi, countTmr0_assigned hp, hbyte, hnext,
      ← add_one_add_ofNat s.psc n]
    by_cases hround : s.psc.toNat % 2 ^ (s.ps + 1) + 1 = 2 ^ (s.ps + 1)
    · have hm : (s.psc.toNat % 2 ^ (s.ps + 1) + (n + 1)) / 2 ^ (s.ps + 1) =
          (0 + n) / 2 ^ (s.ps + 1) + 1 := by
        rw [Nat.add_comm n 1, ← Nat.add_assoc, hround, Nat.add_comm, Nat.add_div_right _ hpos,
          Nat.zero_add]
      have hrest : Counted (incTmr0 { s with psc := s.psc + 1#8 }) _
          (((s.psc + 1#8).toNat % 2 ^ (s.ps + 1) + n) / 2 ^ (s.ps + 1)) _ := ih ha hc hi hp
      rw [hbyte, hnext, if_pos hround] at hrest
      rw [if_pos hround, if_pos rfl, hm]
      exact counted_succ (s := { s with psc := s.psc + 1#8 }) hrest
    · have hrest : Counted { s with psc := s.psc + 1#8 } _
          (((s.psc + 1#8).toNat % 2 ^ (s.ps + 1) + n) / 2 ^ (s.ps + 1)) _ := ih ha hc hi hp
      rw [hbyte, hnext, if_neg hround] at hrest
      rw [if_neg hround, if_neg (Nat.succ_ne_zero _), Nat.add_comm n 1, ← Nat.add_assoc]
      exact hrest

/-! ### The obligation -/

/-- Settles O56: the holding, the still timer, and the counting by induction on the cycles. -/
theorem timer0CountsInstructionCycles : Obligations.Timer0CountsInstructionCycles := by
  unfold Obligations.Timer0CountsInstructionCycles
  refine ⟨passCycles_draw, ?only, ?still, ?held, ?unassigned, ?assigned, ?write⟩
  case only =>
    rintro n s _ rfl
    obtain ⟨p, v, b, h, ht⟩ := passCycles_change n s
    rw [ht]
    refine ⟨rfl, ?_⟩
    cases b
    · exact .inl rfl
    · exact .inr rfl
  case still =>
    intro n s hcycle h
    rw [passCycles_cycle n s hcycle, timerCycles_still n h]
  case held =>
    intro n s hcycle h
    rw [passCycles_cycle n s hcycle, timerCycles_held n h]
  case unassigned =>
    intro n s hcycle ha hc hi hp
    rw [passCycles_cycle n s hcycle]
    exact timerCycles_unassigned n ha hc hi hp
  case assigned =>
    rintro n _ s hcycle ha hc hi hp rfl
    rw [passCycles_cycle n s hcycle]
    exact timerCycles_assigned n ha hc hi hp
  case write =>
    intro v s hcycle ha hc hp
    have h3 := timerCycles_held 3 (s := writeTmr0 v s) (Nat.le_refl 3)
    rw [passCycles_cycle 3 (writeTmr0 v s) hcycle, passCycles_cycle 4 (writeTmr0 v s) hcycle,
      timerCycles_add 3 1, h3]
    obtain ⟨htmr0, -⟩ := timerCycles_unassigned 1
      (s := { writeTmr0 v s with t0Inhibit := 0#2 }) ha hc rfl hp
    exact ⟨rfl, htmr0⟩

end Sys2Proof.Machine
end

section
/-! PROOFS. The agents (60_exceptions.md R244 to R261): what each agent step does, what a boundary is, and
what the agents leave alone when none of them is a reset. -/

namespace Sys2Proof.Machine

/-! ### A bit set, a bit kept -/

/-- A register only gains bits, and only below bit `n`. -/
abbrev SetsBelow (n : Nat) (v v' : Byte) : Prop :=
  (∀ j, v.getLsbD j = true → v'.getLsbD j = true) ∧ (∀ j, n ≤ j → v'.getLsbD j = v.getLsbD j)

/-- Setting a bit is such a change. -/
theorem setsBelow_putBit (v : Byte) {i n : Nat} (h : i < n) : SetsBelow n v (putBit v i true) := by
  refine ⟨fun j hj => ?_, fun j hj => ?_⟩
  · rw [getLsbD_putBit, hj, ite_self]
  · rw [getLsbD_putBit, if_neg (by omega)]

/-- Two such changes in a row are one. -/
theorem SetsBelow.trans {n : Nat} {v v' v'' : Byte} (h : SetsBelow n v v') (h' : SetsBelow n v' v'') :
    SetsBelow n v v'' :=
  ⟨fun j hj => h'.1 j (h.1 j hj), fun j hj => (h'.2 j hj).trans (h.2 j hj)⟩

/-! ### What an agent step that is no reset can change -/

/-- The states an agent step other than a reset, or a time-out, leads to: Timer0, the prescaler, the
watchdog's count, the flags of INTCON, which are set and not cleared, and the data EEPROM. -/
def AgentChange (s t : State) : Prop :=
  ∃ (c p v : Byte) (k : BitVec 2) (n : Nat) (m : Memory 8) (e : BitVec 5),
    t = { s with
      intcon := c, psc := p, tmr0 := v, t0Inhibit := k, wdt := n, ee := m, eecon1 := e } ∧
    SetsBelow 3 s.intcon c ∧ (s.eeif = true → e.getLsbD 4 = true)

/-- Nothing happening is such a change. -/
theorem AgentChange.refl (s : State) : AgentChange s s :=
  ⟨_, _, _, _, _, _, _, rfl, ⟨fun _ h => h, fun _ _ => rfl⟩, fun h => h⟩

/-- A change of Timer0 is such a change. -/
theorem TimerChange.agentChange {s t : State} (h : TimerChange s t) : AgentChange s t := by
  obtain ⟨p, v, b, k, rfl⟩ := h
  refine ⟨_, p, v, k, s.wdt, s.ee, s.eecon1, rfl, ?_, fun h => h⟩
  cases b
  · exact ⟨fun _ h => h, fun _ _ => rfl⟩
  · exact setsBelow_putBit s.intcon (by decide)

/-- A flag of INTCON set is such a change. -/
theorem putIntcon_agentChange (s : State) {i : Nat} (h : i < 3) :
    AgentChange s (s.putIntcon i true) :=
  ⟨_, _, _, _, _, _, _, rfl, setsBelow_putBit s.intcon h, fun h => h⟩

/-- The completion of a data EEPROM write is such a change: it sets EEIF. -/
theorem eeWriteDone_agentChange (s : State) : AgentChange s (eeWriteDone s) := by
  unfold eeWriteDone
  split
  · exact ⟨_, _, _, _, _, _, _, rfl, ⟨fun _ h => h, fun _ _ => rfl⟩,
      fun _ => getLsbD_putBit (putBit s.eecon1 1 false) 4 4 true⟩
  · exact .refl s

/-- Every agent step but a MCLR reset and a time-out of an enabled watchdog is such a change. -/
theorem agentStep_change {e : AgentStep} (s : State) (hmclr : e ≠ .mclr)
    (hwdt : e = .wdtTimeout → s.cfg.wdtEnabled = false) : AgentChange s (agentStep e s) := by
  cases e with
  | tmr0Tick =>
    rw [agentStep, agentTmr0]
    split
    exacts [(incTmr0_change s).agentChange, .refl s]
  | t0ckiEdge rising =>
    rw [agentStep, agentT0cki]
    split
    exacts [(countTmr0_change s).agentChange, .refl s]
  | prescalerTick =>
    rw [agentStep, agentPrescaler]
    split
    · exact ⟨_, _, _, _, _, _, _, rfl, ⟨fun _ h => h, fun _ _ => rfl⟩, fun h => h⟩
    · exact .refl s
  | wdtTick =>
    rw [agentStep, agentWdtTick]
    split
    · exact ⟨_, _, _, _, _, _, _, rfl, ⟨fun _ h => h, fun _ _ => rfl⟩, fun h => h⟩
    · exact .refl s
  | wdtTimeout =>
    rw [agentStep, agentWdtTimeout_disabled (hwdt rfl)]
    exact .refl s
  | intEdge rising =>
    rw [agentStep, agentIntEdge]
    split
    exacts [putIntcon_agentChange s (by decide), .refl s]
  | portBChange levels =>
    rw [agentStep, agentPortBChange]
    split
    exacts [putIntcon_agentChange s (by decide), .refl s]
  | eeWriteDone => exact eeWriteDone_agentChange s
  | mclr => exact absurd rfl hmclr

/-- In a sleep no agent step changes TMR0 (R256). -/
theorem agentStep_tmr0_asleep {e : AgentStep} {s : State} (ha : s.asleep = true) :
    (agentStep e s).tmr0 = s.tmr0 := by
  cases e with
  | tmr0Tick => rw [agentStep, agentTmr0, if_neg (by simp [ha])]
  | t0ckiEdge rising => rw [agentStep, agentT0cki, if_neg (by simp [ha])]
  | prescalerTick => rw [agentStep, agentPrescaler]; split <;> rfl
  | wdtTick => rw [agentStep, agentWdtTick]; split <;> rfl
  | wdtTimeout => rw [agentStep, agentWdtTimeout]; split_ifs <;> rfl
  | intEdge rising => rw [agentStep, agentIntEdge]; split <;> rfl
  | portBChange levels => rw [agentStep, agentPortBChange]; split <;> rfl
  | eeWriteDone => rw [agentStep, eeWriteDone]; split <;> rfl
  | mclr => rfl

/-- A flag is set and not cleared, and no enable bit changes, by an agent step other than a reset. -/
theorem agentStep_flags {e : AgentStep} (s : State) (hmclr : e ≠ .mclr)
    (hwdt : e = .wdtTimeout → s.asleep = true) :
    SetsBelow 3 s.intcon (agentStep e s).intcon ∧ (s.eeif = true → (agentStep e s).eeif = true) := by
  by_cases he : e = .wdtTimeout ∧ s.cfg.wdtEnabled = true
  · obtain ⟨rfl, he⟩ := he
    rw [agentStep, agentWdtTimeout_asleep he (hwdt rfl)]
    exact ⟨⟨fun _ h => h, fun _ _ => rfl⟩, fun h => h⟩
  · obtain ⟨c, p, v, k, n, m, e', ht, hflags⟩ := agentStep_change s hmclr
      fun h => Bool.eq_false_iff.mpr fun he' => he ⟨h, he'⟩
    rw [ht]
    exact hflags

/-- A pin among RB7..RB4 that is an input differs from its latched level (R254). -/
theorem portBDiffers_iff (levels : BitVec 4) (s : State) :
    (levels ^^^ s.rbLatch) &&& s.trisB.extractLsb' 4 4 ≠ 0#4 ↔
      ∃ j, j < 4 ∧ s.trisB.getLsbD (4 + j) = true ∧ levels.getLsbD j ≠ s.rbLatch.getLsbD j := by
  have hbit : ∀ j, j < 4 → ((levels ^^^ s.rbLatch) &&& s.trisB.extractLsb' 4 4).getLsbD j =
      ((levels.getLsbD j != s.rbLatch.getLsbD j) && s.trisB.getLsbD (4 + j)) := fun j hj => by
    simp [hj]
  constructor
  · intro hne
    by_contra hall
    refine hne (BitVec.eq_of_getLsbD_eq fun j hj => ?_)
    rw [hbit j hj, BitVec.getLsbD_zero]
    by_contra hj1
    simp only [Bool.not_eq_false, Bool.and_eq_true, bne_iff_ne] at hj1
    exact hall ⟨j, hj, hj1.2, hj1.1⟩
  · rintro ⟨j, hj, htris, hne⟩ hzero
    have hj0 := hbit j hj
    rw [hzero, htris, bne_iff_ne.mpr hne] at hj0
    simp at hj0

/-! ### A boundary (R12, R244, R256) -/

/-- The agent steps of a boundary one after another, each after the wake-up that is due. -/
theorem agentSteps_eq_foldl (es : List AgentStep) (s : State) :
    agentSteps es s = wakeIfDue (es.foldl (fun t e => agentStep e (wakeIfDue t)) s) := by
  induction es generalizing s with
  | nil => rfl
  | cons e es ih => exact ih _

/-- The first list of the schedule is the boundary, and the rest of it stays (log 4). -/
theorem runAgents_cons {s : State} {es : List AgentStep} {rest : List (List AgentStep)}
    (h : s.schedule = es :: rest) : runAgents s = agentSteps es { s with schedule := rest } := by
  rw [runAgents, h]
  rfl

/-- What each agent step of the boundary and each wake-up keeps, the agents keep. -/
theorem agentSteps_induction_mem (P : State → Prop) (hwake : ∀ s, P s → P (wakeIfDue s))
    (es : List AgentStep) (hagent : ∀ e ∈ es, ∀ s, P s → P (agentStep e s)) (s : State) (h : P s) :
    P (agentSteps es s) := by
  induction es generalizing s with
  | nil => exact hwake s h
  | cons e es ih =>
    exact ih (fun e' he' => hagent e' (List.mem_cons_of_mem _ he')) _
      (hagent e List.mem_cons_self _ (hwake s h))

/-- Awake, with what a reset would show in left alone. -/
abbrev Undisturbed (s u : State) : Prop :=
  u.pc = s.pc ∧ u.w = s.w ∧ u.ram = s.ram ∧ u.timeOut = s.timeOut ∧ u.asleep = false

/-! ### The obligations -/

/-- Settles O52, agent by agent; the flags are those of `AgentChange`. -/
theorem agentStepsChangeOnlyTheirState : Obligations.AgentStepsChangeOnlyTheirState := by
  unfold Obligations.AgentStepsChangeOnlyTheirState
  intro s
  refine ⟨?tick, ?noTick, ?edge, ?noEdge, rfl, rfl, ?timeout, fun _ => rfl, ?portB, rfl, ?flags, ?wake,
    runAgents_nil s, ?boundary, ?single, ?asleep⟩
  case tick => exact fun hd ha => if_pos ⟨hd, ha⟩
  case noTick =>
    rintro h
    refine if_neg ?_
    rintro ⟨hd, ha⟩
    rcases h with h | h
    · rw [hd] at h; cases h
    · rw [ha] at h; cases h
  case edge =>
    intro rising hc ha hcs hr hi
    have hcount : agentStep (.t0ckiEdge rising) s = countTmr0 s := if_pos ⟨hc, ha, hcs, hr, hi⟩
    rw [hcount]
    refine ⟨fun hp => countTmr0_unassigned hp, fun hp hm => ?_, fun hp hm => ?_⟩
    · exact (countTmr0_assigned hp).trans (if_pos hm)
    · exact (countTmr0_assigned hp).trans (if_neg hm)
  case noEdge =>
    intro rising h
    refine if_neg ?_
    rintro ⟨hc, ha, hcs, hr, hi⟩
    rcases h with h | h | h | h | h
    · rw [hc] at h; cases h
    · rw [ha] at h; cases h
    · cases hcs.symm.trans h
    · exact Bool.not_ne_self _ (hr.symm.trans h)
    · exact h hi
  case timeout =>
    intro ha
    cases he : s.cfg.wdtEnabled
    · exact agentWdtTimeout_disabled he
    · exact agentWdtTimeout_asleep he ha
  case portB =>
    refine fun levels => ⟨fun h => if_pos ((portBDiffers_iff levels s).mpr h), fun h => if_neg ?_⟩
    rw [portBDiffers_iff]
    rintro ⟨j, hj, htris, hne⟩
    exact hne (h j hj htris)
  case flags =>
    rintro e _ hmclr hwdt rfl
    obtain ⟨⟨hset, hkeep⟩, heeif⟩ := agentStep_flags s hmclr hwdt
    refine ⟨BitVec.eq_of_getLsbD_eq fun j hj => ?_, hset 2, hset 1, hset 0, heeif,
      agentStep_tmr0_asleep⟩
    rw [BitVec.getLsbD_extractLsb', BitVec.getLsbD_extractLsb', hkeep _ (Nat.le_add_right 3 j)]
  case wake =>
    simp only [wakeIfDue, Bool.and_eq_true, wakeRequest_iff]
    rfl
  case boundary =>
    intro es rest hs
    rw [runAgents_cons hs]
    exact ⟨agentSteps_eq_foldl _ _, agentSteps_induction (·.schedule = rest)
      (fun u hu => (wakeIfDue_schedule u).trans hu) (fun e u hu => (agentStep_schedule e u).trans hu)
      _ _ rfl⟩
  case single =>
    intro e rest hs ha
    rw [runAgents_cons hs, agentSteps, wakeIfDue_awake { s with schedule := rest } ha, agentSteps]
  case asleep => exact fun ha => by simp [step, ha]

/-- Settles O53: the reset state field by field, EECON1 bit by bit, and the torn cell by its address. -/
theorem mclrResetValues : Obligations.MclrResetValues := by
  unfold Obligations.MclrResetValues
  rintro s _ rfl
  have hbit : ∀ j, (agentStep .mclr s).eecon1.getLsbD j =
      if 3 = j ∧ 3 < 5 then s.wr || s.wrerr else (0#5).getLsbD j :=
    fun j => getLsbD_putBit 0#5 3 j _
  refine ⟨rfl, rfl, rfl, rfl, rfl, rfl, rfl, hbit 4, hbit 2, hbit 1, hbit 0, hbit 3, rfl, rfl, rfl, rfl,
    rfl, rfl, rfl, rfl, rfl, rfl, rfl, rfl, rfl, rfl, rfl, rfl, fun n hn => ?_⟩
  change (if s.wr then _ else s.ee : Memory 8).read n = _
  split
  · next hwr => exact Memory.read_write_other _ _ (hn hwr)
  · rfl

/-- Settles O55: before the minimum no time-out is in the boundary, and no other agent step of it is a
reset. -/
theorem noWatchdogResetBeforeMinimumCycles : Obligations.NoWatchdogResetBeforeMinimumCycles := by
  unfold Obligations.NoWatchdogResetBeforeMinimumCycles
  intro m s hpremise ha hearly hmclr
  have hwdt : AgentStep.wdtTimeout ∉ s.schedule.headD [] := fun h =>
    absurd (hpremise ha h) (Nat.not_le.mpr hearly)
  refine agentSteps_induction_mem (Undisturbed s) (fun u hu => ?_) _ (fun e he u hu => ?_) _
    ⟨rfl, rfl, rfl, rfl, ha⟩
  · obtain ⟨-, -, -, -, hua⟩ := id hu
    rwa [wakeIfDue_awake u hua]
  · obtain ⟨c, p, v, k, n, mem, e', ht, -⟩ := agentStep_change (e := e) u
      (fun h => hmclr (h ▸ he)) (fun h => absurd (h ▸ he) hwdt)
    rw [ht]
    exact hu

end Sys2Proof.Machine
end

section
/-! PROOFS. Sleep, wake-up and the idle loop (60_exceptions.md R256; 70_reset_and_hazards.md R301). -/

namespace Sys2Proof.Machine

/-! ### Wake-up requests (R256) -/

/-- A request keeps standing while no enable bit changes and no flag is cleared. -/
theorem wakeRequest_mono {s t : State} (hcon : SetsBelow 3 s.intcon t.intcon)
    (hee : s.eeif = true → t.eeif = true) (h : wakeRequest s = true) : wakeRequest t = true := by
  obtain ⟨hset, -⟩ := hcon
  rw [wakeRequest_iff] at h ⊢
  exact h.imp (.imp (hset 4) (hset 1)) (.imp (.imp (hset 3) (hset 0)) (.imp (hset 6) hee))

/-- After a boundary a sleeping core has no request standing. -/
theorem agentSteps_settled (es : List AgentStep) (s : State)
    (h : (agentSteps es s).asleep = true) : wakeRequest (agentSteps es s) = false := by
  induction es generalizing s with
  | nil =>
    rw [agentSteps, wakeIfDue] at h ⊢
    split at h
    · cases h
    · next hne =>
      rw [if_neg hne]
      exact Bool.eq_false_iff.mpr fun hw => hne (by simp [h, hw])
  | cons e es ih => exact ih _ h

/-- In a sleep from `s`, and after a wake-up by a request: what such a boundary leaves untouched. -/
abbrev SleepsOrWoken (s u : State) : Prop :=
  u.pc = s.pc ∧ u.w = s.w ∧ u.status = s.status ∧ u.gie = s.gie ∧ u.cfg = s.cfg ∧
  (u.asleep = true ∨ (u.asleep = false ∧ wakeRequest u = true ∧ u.deferIrq = u.gie))

/-- A wake-up keeps this. -/
theorem SleepsOrWoken.wake {s u : State} (h : SleepsOrWoken s u) : SleepsOrWoken s (wakeIfDue u) := by
  unfold wakeIfDue
  split
  · next hdue =>
    obtain ⟨hpc, hw, hstatus, hgie, hcfg, -⟩ := h
    exact ⟨hpc, hw, hstatus, hgie, hcfg, .inr ⟨rfl, (Bool.and_eq_true_iff.mp hdue).2, rfl⟩⟩
  · exact h

/-- An agent step other than a reset or a time-out keeps this. -/
theorem SleepsOrWoken.agent {s u t : State} (h : SleepsOrWoken s u) (ht : AgentChange u t) :
    SleepsOrWoken s t := by
  obtain ⟨hpc, hw, hstatus, hgie, hcfg, hsleep⟩ := h
  obtain ⟨c, p, v, k, n, m, e, rfl, hcon, hee⟩ := ht
  have hgie' : c.getLsbD 7 = u.gie := hcon.2 7 (by decide)
  refine ⟨hpc, hw, hstatus, hgie'.trans hgie, hcfg, hsleep.imp_right fun ⟨ha, hreq, hdefer⟩ => ?_⟩
  exact ⟨ha, wakeRequest_mono hcon hee hreq, hdefer.trans hgie'.symm⟩

/-- An awake core without a deferral stays so whatever the agents do. -/
theorem runAgents_awake {s : State} (ha : s.asleep = false) (hd : s.deferIrq = false) :
    (runAgents s).asleep = false ∧ (runAgents s).deferIrq = false := by
  refine runAgents_induction (fun u => u.asleep = false ∧ u.deferIrq = false) (fun _ _ h => h)
    (fun u hu => by rwa [wakeIfDue_awake u hu.1]) (fun e u hu => ?_) ⟨ha, hd⟩
  by_cases hmclr : e = .mclr
  · subst hmclr
    exact ⟨rfl, rfl⟩
  by_cases hwdt : e = .wdtTimeout ∧ u.cfg.wdtEnabled = true
  · obtain ⟨rfl, he⟩ := hwdt
    rw [agentStep, agentWdtTimeout_awake he hu.1]
    exact ⟨rfl, rfl⟩
  · obtain ⟨c, p, v, k, n, m, e', ht, -⟩ := agentStep_change u hmclr
      fun h => Bool.eq_false_iff.mpr fun he => hwdt ⟨h, he⟩
    rw [ht]
    exact hu

/-- The agent steps of a boundary are those of a list of the schedule. -/
theorem exists_mem_of_mem_headD {l : List (List AgentStep)} {e : AgentStep} (h : e ∈ l.headD []) :
    ∃ es ∈ l, e ∈ es := by
  cases l with
  | nil => cases h
  | cons es rest => exact ⟨es, List.mem_cons_self, h⟩

/-! ### A sleep that nothing can end (R301) -/

/-- What decides whether an agent step ends a sleep in which no request stands (R256). -/
def CanEndSleep (e : AgentStep) (s : State) : Prop :=
  match e with
  | .tmr0Tick | .t0ckiEdge _ | .prescalerTick | .wdtTick => False
  | .wdtTimeout => s.cfg.wdtEnabled = true
  | .intEdge rising => rising = s.intedg ∧ s.inte = true
  | .portBChange levels => (levels ^^^ s.rbLatch) &&& s.trisB.extractLsb' 4 4 ≠ 0#4 ∧ s.rbie = true
  | .eeWriteDone => s.wr = true ∧ s.eeie = true
  | .mclr => True

/-- What the agents of such a sleep may change: the watchdog and its prescaler, INTF, RBIF, and a data
EEPROM write in progress. -/
structure SleepChange (s t : State) : Prop where
  frame : t = { s with
    wdt := t.wdt, psc := t.psc, intcon := t.intcon, ee := t.ee, eecon1 := t.eecon1 }
  sets : SetsBelow 2 s.intcon t.intcon
  wdt : s.cfg.wdtEnabled = false → t.wdt = s.wdt ∧ t.psc = s.psc
  psc : s.psa = false → t.psc = s.psc
  eeprom : (t.ee = s.ee ∧ t.eecon1 = s.eecon1) ∨
    (s.wr = true ∧ t.ee = s.ee.write s.eeAddr.toNat s.eeData ∧
      t.eecon1 = (s.eecon1 &&& 0b11101#5) ||| 0b10000#5)

/-- Nothing happening is such a change. -/
theorem SleepChange.refl (s : State) : SleepChange s s :=
  ⟨rfl, ⟨fun _ h => h, fun _ _ => rfl⟩, fun _ => ⟨rfl, rfl⟩, fun _ => rfl, .inl ⟨rfl, rfl⟩⟩

/-- WR is clear after the completion of a write (R261). -/
theorem wr_after_completion (e : BitVec 5) :
    ((e &&& 0b11101#5) ||| 0b10000#5).getLsbD 1 = false := by
  revert e; decide

/-- Two such changes in a row are one: a second write completes only if the first did not. -/
theorem SleepChange.trans {s t u : State} (h : SleepChange s t) (h' : SleepChange t u) :
    SleepChange s u := by
  obtain ⟨hframe, hsets, hwdt, hpsc, hee⟩ := h
  obtain ⟨hframe', hsets', hwdt', hpsc', hee'⟩ := h'
  obtain ⟨n, p, c, m, e, rfl⟩ : ∃ n p c m e, t =
    { s with wdt := n, psc := p, intcon := c, ee := m, eecon1 := e } := ⟨_, _, _, _, _, hframe⟩
  refine ⟨hframe', hsets.trans hsets', fun hd => ?_, fun hp => (hpsc' hp).trans (hpsc hp), ?_⟩
  · obtain ⟨hn, hp⟩ := hwdt hd
    obtain ⟨hn', hp'⟩ := hwdt' hd
    exact ⟨hn'.trans hn, hp'.trans hp⟩
  · obtain ⟨rfl, rfl⟩ | ⟨hwr, rfl, rfl⟩ := hee
    · exact hee'
    · obtain ⟨hm, he⟩ | ⟨hwr', -⟩ := hee'
      · exact .inr ⟨hwr, hm, he⟩
      · cases hwr'.symm.trans (wr_after_completion s.eecon1)

/-- Setting a flag whose source is not enabled requests nothing. -/
theorem wakeRequest_putIntcon {s : State} {i : Nat}
    (h : (i = 1 ∧ s.inte = false) ∨ (i = 0 ∧ s.rbie = false)) :
    wakeRequest (s.putIntcon i true) = wakeRequest s := by
  have hother : ∀ j, j ≠ i → (putBit s.intcon i true).getLsbD j = s.intcon.getLsbD j :=
    fun j hj => by
    rw [getLsbD_putBit, if_neg fun h => hj h.1.symm]
  simp only [wakeRequest, State.inte, State.intf, State.rbie, State.rbif, State.eeie, State.eeif,
    putIntcon_intcon, putIntcon_eecon1] at h ⊢
  rcases h with ⟨rfl, h⟩ | ⟨rfl, h⟩
  · rw [hother 4 (by decide), hother 3 (by decide), hother 0 (by decide), hother 6 (by decide), h]
    rfl
  · rw [hother 4 (by decide), hother 1 (by decide), hother 3 (by decide), hother 6 (by decide), h]
    rfl

/-- A flag of INTCON whose source is not enabled may be set in such a sleep. -/
theorem putIntcon_sleepChange {s : State} {i : Nat} (hw : wakeRequest s = false)
    (h : (i = 1 ∧ s.inte = false) ∨ (i = 0 ∧ s.rbie = false)) :
    SleepChange s (s.putIntcon i true) ∧ wakeRequest (s.putIntcon i true) = false :=
  ⟨⟨rfl, setsBelow_putBit s.intcon (by omega), fun _ => ⟨rfl, rfl⟩, fun _ => rfl, .inl ⟨rfl, rfl⟩⟩,
    (wakeRequest_putIntcon h).trans hw⟩

/-- An agent step that cannot end the sleep changes nothing else, and no request comes. -/
theorem agentStep_sleepChange {e : AgentStep} {s : State} (ha : s.asleep = true)
    (hw : wakeRequest s = false) (h : ¬CanEndSleep e s) :
    SleepChange s (agentStep e s) ∧ wakeRequest (agentStep e s) = false := by
  have hself : SleepChange s s ∧ wakeRequest s = false := ⟨.refl s, hw⟩
  cases e with
  | tmr0Tick => rwa [agentStep, agentTmr0, if_neg (by simp [ha])]
  | t0ckiEdge rising => rwa [agentStep, agentT0cki, if_neg (by simp [ha])]
  | prescalerTick =>
    rw [agentStep, agentPrescaler]
    split
    · next hc =>
      obtain ⟨hpsa, hen⟩ : s.psa = true ∧ s.cfg.wdtEnabled = true := by simpa [ha] using hc
      exact ⟨⟨rfl, ⟨fun _ h => h, fun _ _ => rfl⟩, fun hd => by simp [hen] at hd,
        fun hp => by simp [hpsa] at hp, .inl ⟨rfl, rfl⟩⟩, hw⟩
    · exact hself
  | wdtTick =>
    rw [agentStep, agentWdtTick]
    split
    · next hen =>
      exact ⟨⟨rfl, ⟨fun _ h => h, fun _ _ => rfl⟩, fun hd => by simp [hen] at hd, fun _ => rfl,
        .inl ⟨rfl, rfl⟩⟩, hw⟩
    · exact hself
  | wdtTimeout => rwa [agentStep, agentWdtTimeout_disabled (Bool.eq_false_iff.mpr h)]
  | intEdge rising =>
    rw [agentStep, agentIntEdge]
    split
    · next hr =>
      exact putIntcon_sleepChange hw (.inl ⟨rfl, Bool.eq_false_iff.mpr fun hi => h ⟨hr, hi⟩⟩)
    · exact hself
  | portBChange levels =>
    rw [agentStep, agentPortBChange]
    split
    · next hr =>
      exact putIntcon_sleepChange hw (.inr ⟨rfl, Bool.eq_false_iff.mpr fun hi => h ⟨hr, hi⟩⟩)
    · exact hself
  | eeWriteDone =>
    rw [agentStep, eeWriteDone]
    split
    · next hwr =>
      have heeie : s.eeie = false := Bool.eq_false_iff.mpr fun hi => h ⟨hwr, hi⟩
      refine ⟨⟨rfl, ⟨fun _ h => h, fun _ _ => rfl⟩, fun _ => ⟨rfl, rfl⟩, fun _ => rfl,
        .inr ⟨hwr, rfl, rfl⟩⟩, ?_⟩
      simp only [wakeRequest, State.eeie] at hw heeie ⊢
      rw [heeie, Bool.false_and] at hw ⊢
      exact hw
    · exact hself
  | mclr => exact absurd trivial h

/-- An agent step that can end the sleep does. -/
theorem endsSleep_of_canEndSleep {e : AgentStep} {s : State} (ha : s.asleep = true)
    (h : CanEndSleep e s) : endsSleep e s = true := by
  have hreq : wakeRequest (agentStep e s) = true → endsSleep e s = true := fun hw => by
    rw [endsSleep, hw, Bool.or_true]
  have hawake : (agentStep e s).asleep = false → endsSleep e s = true := fun hs => by
    rw [endsSleep, hs]
    rfl
  cases e with
  | tmr0Tick | t0ckiEdge rising | prescalerTick | wdtTick => exact h.elim
  | wdtTimeout => exact hawake (by rw [agentStep, agentWdtTimeout_asleep h ha])
  | intEdge rising =>
    obtain ⟨hr, hi⟩ := h
    refine hreq ((wakeRequest_iff _).mpr (.inl ?_))
    rw [agentStep, agentIntEdge, if_pos hr]
    exact ⟨(getLsbD_putBit s.intcon 1 4 true).trans hi, getLsbD_putBit s.intcon 1 1 true⟩
  | portBChange levels =>
    obtain ⟨hr, hi⟩ := h
    refine hreq ((wakeRequest_iff _).mpr (.inr (.inl ?_)))
    rw [agentStep, agentPortBChange, if_pos hr]
    exact ⟨(getLsbD_putBit s.intcon 0 3 true).trans hi, getLsbD_putBit s.intcon 0 0 true⟩
  | eeWriteDone =>
    obtain ⟨hwr, hi⟩ := h
    refine hreq ((wakeRequest_iff _).mpr (.inr (.inr ?_)))
    rw [agentStep, eeWriteDone, if_pos hwr]
    exact ⟨hi, getLsbD_putBit (putBit s.eecon1 1 false) 4 4 true⟩
  | mclr => exact hawake rfl

/-- What can end the sleep after such a change could end it before. -/
theorem SleepChange.canEndSleep {e : AgentStep} {s t : State} (h : SleepChange s t)
    (he : CanEndSleep e t) : CanEndSleep e s := by
  obtain ⟨hframe, hsets, -, -, hee⟩ := h
  obtain ⟨n, p, c, m, ee, rfl⟩ : ∃ n p c m e, t =
    { s with wdt := n, psc := p, intcon := c, ee := m, eecon1 := e } := ⟨_, _, _, _, _, hframe⟩
  obtain ⟨-, henable⟩ := hsets
  cases e with
  | tmr0Tick | t0ckiEdge rising | prescalerTick | wdtTick => exact he
  | wdtTimeout => exact he
  | intEdge rising => exact ⟨he.1, (henable 4 (by decide)).symm.trans he.2⟩
  | portBChange levels => exact ⟨he.1, (henable 3 (by decide)).symm.trans he.2⟩
  | eeWriteDone =>
    refine ⟨?_, (henable 6 (by decide)).symm.trans he.2⟩
    obtain ⟨-, rfl⟩ | ⟨hwr, -⟩ := hee
    · exact he.1
    · exact hwr
  | mclr => exact he

/-- With no request standing no core wakes. -/
theorem wakeIfDue_no_request {s : State} (hw : wakeRequest s = false) : wakeIfDue s = s := by
  simp [wakeIfDue, hw]

/-- A boundary of agent steps that cannot end the sleep. -/
theorem agentSteps_sleepChange {es : List AgentStep} {s : State} (ha : s.asleep = true)
    (hw : wakeRequest s = false) (h : ∀ e ∈ es, ¬CanEndSleep e s) :
    SleepChange s (agentSteps es s) ∧ wakeRequest (agentSteps es s) = false := by
  induction es generalizing s with
  | nil =>
    rw [agentSteps, wakeIfDue_no_request hw]
    exact ⟨.refl s, hw⟩
  | cons e es ih =>
    obtain ⟨hch, hw'⟩ := agentStep_sleepChange ha hw (h e List.mem_cons_self)
    have ha' : (agentStep e s).asleep = true := by rw [hch.frame]; exact ha
    obtain ⟨hch', hw''⟩ := ih ha' hw' fun e' he' hc =>
      h e' (List.mem_cons_of_mem _ he') (hch.canEndSleep hc)
    rw [agentSteps, wakeIfDue_no_request hw]
    exact ⟨hch.trans hch', hw''⟩

/-! ### The idle loop (R301) -/

/-- The word of the idle loop is a GOTO to the low eleven bits of its address. -/
theorem decode_idleLoop {s : State} (h : fetch s = (0b101#3 ++ s.pc.extractLsb' 0 11 : BitVec 14)) :
    decode (fetch s) = .ok (.goto (s.pc.extractLsb' 0 11)) :=
  h ▸ decode_encode (.goto (s.pc.extractLsb' 0 11)) rfl

/-- The long target is the address itself when PCLATH<4:3> selects its page (R195). -/
theorem longTarget_self {s : State} (h : s.pclath.extractLsb' 3 2 = s.pc.extractLsb' 11 2) :
    longTarget (s.pc.extractLsb' 0 11) s = s.pc := by
  rw [longTarget, h]
  apply BitVec.eq_of_toNat_eq
  simp only [toNat_append_eq_add, toNat_extractLsb'_eq_div_mod]
  omega

/-- The holding of Timer0's count after two cycles. -/
theorem held_two_cycles (i : BitVec 2) :
    BitVec.ofNat 2 (i.toNat - 2) = if i = 3#2 then 1#2 else 0#2 := by
  revert i; decide

/-- Two cycles with no counting: under `draw` nothing, under `cycle` in counter mode the holding runs
out. -/
theorem passCycles_two {s : State} (h : s.cfg.tmr0Policy = .cycle → s.t0cs = true) :
    passCycles 2 s = { s with t0Inhibit :=
      match s.cfg.tmr0Policy with
      | .draw => s.t0Inhibit
      | .cycle => if s.t0Inhibit = 3#2 then 1#2 else 0#2 } := by
  cases hp : s.cfg.tmr0Policy with
  | draw => rw [passCycles_draw 2 s hp]
  | cycle => rw [passCycles_cycle 2 s hp, timerCycles_still 2 (.inr (h hp)), held_two_cycles]

/-- Empty boundaries let no agent act, and a core wakes only if it is due to. -/
theorem runAgents_empty {s : State} (h : ∀ es ∈ s.schedule, es = []) :
    runAgents s = wakeIfDue { s with schedule := s.schedule.tail } := by
  have hhead : s.schedule.headD [] = [] :=
    List.eq_nil_iff_forall_not_mem.mpr fun e he => by
      obtain ⟨es, hes, he⟩ := exists_mem_of_mem_headD he
      rw [h es hes] at he
      cases he
  rw [runAgents, hhead, agentSteps]

/-! ### The obligations -/

/-- Settles O49: no agent step to come can end the sleep, now or after what the others change. -/
theorem permanentSleepExecutesNothing : Obligations.PermanentSleepExecutesNothing := by
  unfold Obligations.PermanentSleepExecutesNothing
  rintro s ⟨ha, hw, hends⟩
  have hcan : ∀ es ∈ s.schedule, ∀ e ∈ es, ¬CanEndSleep e s := fun es hes e he hc =>
    absurd (endsSleep_of_canEndSleep ha hc) (by simp [hends es hes e he])
  have hhead : ∀ e ∈ s.schedule.headD [], ¬CanEndSleep e s := fun e he => by
    obtain ⟨es, hes, he⟩ := exists_mem_of_mem_headD he
    exact hcan es hes e he
  obtain ⟨hch, hw'⟩ := agentSteps_sleepChange (s := { s with schedule := s.schedule.tail }) ha hw hhead
  change SleepChange _ (runAgents s) at hch
  change wakeRequest (runAgents s) = false at hw'
  have hframe := hch.frame
  have ha' : (runAgents s).asleep = true := by rw [hframe]; exact ha
  have hschedule : (runAgents s).schedule = s.schedule.tail := by rw [hframe]
  have hperm : PermanentSleep (runAgents s) := by
    refine ⟨ha', hw', fun es hes e he => ?_⟩
    rw [hschedule] at hes
    have hcannot : ¬CanEndSleep e (runAgents s) := fun hc =>
      hcan es (List.mem_of_mem_tail hes) e he (hch.canEndSleep hc)
    obtain ⟨hche, hwe⟩ := agentStep_sleepChange ha' hw' hcannot
    rw [endsSleep, hwe, hche.frame, ha']
    rfl
  obtain ⟨hset, hkeep⟩ := hch.sets
  refine ⟨runAgents s, by simp [step, ha'], hperm, hframe, hkeep, hset 1, hset 0, hch.wdt, hch.psc,
    fun hwr => ?_, hch.eeprom.imp_right And.right, fun hempty => ?_⟩
  · obtain hsame | ⟨hwr', -⟩ := hch.eeprom
    · exact hsame
    · cases hwr.symm.trans hwr'
  · rw [runAgents_empty hempty]
    exact wakeIfDue_no_request hw

/-- Settles O50: what a boundary without a reset leaves untouched, and the deferral, which holds for one
instruction. -/
theorem wakeUpRunsOneInstructionBeforeInterrupt :
    Obligations.WakeUpRunsOneInstructionBeforeInterrupt := by
  unfold Obligations.WakeUpRunsOneInstructionBeforeInterrupt
  refine ⟨?boundary, ?instruction⟩
  case boundary =>
    rintro s₀ _ rfl ha hmclr hwdt
    have hsleep : SleepsOrWoken s₀ (runAgents s₀) := by
      refine agentSteps_induction_mem (SleepsOrWoken s₀) (fun _ => .wake) _ (fun e he u hu => ?_) _
        ⟨rfl, rfl, rfl, rfl, rfl, .inl ha⟩
      refine hu.agent (agentStep_change u (fun h => hmclr (h ▸ he)) fun h => ?_)
      obtain ⟨-, -, -, -, hcfg, -⟩ := hu
      rw [hcfg]
      exact Bool.eq_false_iff.mpr fun hen => hwdt hen (h ▸ he)
    obtain ⟨hpc, hw, hstatus, hgie, -, ha' | ⟨ha', hreq, hdefer⟩⟩ := hsleep
    · have hreq : wakeRequest (runAgents s₀) = false := agentSteps_settled _ _ ha'
      exact ⟨by rw [ha', hreq]; rfl, fun h => by simp [ha'] at h, hpc, hw, hstatus, hgie⟩
    · exact ⟨by rw [ha', hreq]; rfl, fun _ => hdefer, hpc, hw, hstatus, hgie⟩
  case instruction =>
    rintro s₀ _ t i rfl - ha hdefer hd hx
    have hi : interruptDue (runAgents s₀) = false := by
      rw [interruptDue, hdefer]
      cases (runAgents s₀).gie <;> simp
    refine ⟨_, (step_exec ha hi hd).trans (by rw [hx]; rfl), rfl, ?_⟩
    rintro _ rfl hua hgie hirq
    obtain ⟨ha', hdefer'⟩ := runAgents_awake hua rfl
    exact step_interrupt ha' (by simp [interruptDue, hgie, hirq, hdefer'])

/-- Settles O51: with nothing scheduled and no interrupt possible the step is the GOTO to its own address. -/
theorem idleLoopStaysIdle : Obligations.IdleLoopStaysIdle := by
  unfold Obligations.IdleLoopStaysIdle
  rintro s ⟨ha, hempty, hpolicy, hfetch, hpage, hirq⟩
  have hrun : runAgents s = { s with schedule := s.schedule.tail } :=
    (runAgents_empty hempty).trans (wakeIfDue_awake _ ha)
  have hdue : interruptDue (runAgents s) = false := by
    rw [hrun]
    change (s.gie && irq s && !s.deferIrq) = false
    rcases hirq with h | h <;> simp [h]
  have hexec : ∀ u : State, u.pc = s.pc → u.pclath = s.pclath →
      exec (.goto (s.pc.extractLsb' 0 11)) u = .next (branchTo s.pc u) := fun u hpc hlath => by
    have htarget := longTarget_self (s := u) (by rw [hlath, hpc]; exact hpage)
    rw [hpc] at htarget
    rw [exec, execGoto, htarget]
  have hstep := step_exec (s₀ := s) (by rw [hrun]; exact ha) hdue
    (by rw [hrun]; exact decode_idleLoop hfetch)
  rw [hexec _ (by rw [hrun]; rfl) (by rw [hrun]; rfl)] at hstep
  refine ⟨_, hstep.trans (congrArg Host.Outcome.next ?_), ?_, rfl⟩
  · have htwo : s.cycles + 2 - s.cycles = 2 := Nat.add_sub_cancel_left _ _
    have hpass := passCycles_two (s := branchTo s.pc (countSequence (.goto (s.pc.extractLsb' 0 11))
      { s with schedule := s.schedule.tail })) hpolicy
    rw [endStep, hrun, branchTo_cycles, countSequence_cycles, htwo, hpass]
    rfl
  · exact ⟨ha, fun es hes => hempty es (List.mem_of_mem_tail hes), hpolicy, hfetch, hpage, hirq⟩

end Sys2Proof.Machine
end

section
/-! PROOFS. The data EEPROM (60_exceptions.md R258 to R261): a write of EECON1 and of EECON2, the read, the
unlock sequence, and the completion of a write. -/

namespace Sys2Proof.Machine

/-! ### A write of EECON1 (R258, R259, R260) -/

/-- Every bit of EECON1 as the write stores it: WR and RD can be set, not cleared. -/
theorem getLsbD_eecon1After (v : Byte) (old : BitVec 5) (j : Nat) : (eecon1After v old).getLsbD j =
    if j < 2 then old.getLsbD j || v.getLsbD j else decide (j < 5) && v.getLsbD j := by
  show (_ ++ BitVec.ofBool _ ++ BitVec.ofBool _ : BitVec (3 + 1 + 1)).getLsbD j = _
  rw [BitVec.getLsbD_append, BitVec.getLsbD_append]
  rcases j with _ | _ | j
  · simp
  · simp
  · have hlt : decide (j < 3) = decide (j + 1 + 1 < 5) := decide_eq_decide.mpr (by omega)
    simp [hlt, Nat.add_comm 2]

/-- EECON1 stored and the read done: RD is clear again, and EEDATA holds the addressed byte if RD was set
(R258, R259). -/
def storeEecon1 (v : Byte) (s : State) : State :=
  { s with
    eecon1 := putBit (eecon1After v s.eecon1) 0 false
    eedata := if v.getLsbD 0 then s.ee.read s.eeIndex.toNat else s.eedata }

/-- Every bit of EECON1 then. -/
theorem getLsbD_storeEecon1 (v : Byte) (s : State) {j : Nat} (h0 : j ≠ 0) (h5 : j < 5) :
    (storeEecon1 v s).eecon1.getLsbD j = if j = 1 then s.wr || v.getLsbD 1 else v.getLsbD j := by
  rw [storeEecon1, getLsbD_putBit, if_neg (by omega), getLsbD_eecon1After]
  split
  · obtain rfl : j = 1 := by omega
    rfl
  · rw [if_neg (by omega), decide_eq_true h5, Bool.true_and]

/-- RD is clear then. -/
theorem storeEecon1_rd (v : Byte) (s : State) : (storeEecon1 v s).rd = false :=
  getLsbD_putBit _ 0 0 false

/-- A write of EECON1 with RD clear before: the bits and the read, then the start if WR is set anew. -/
theorem writeEecon1_eq (v : Byte) {s : State} (hrd : s.rd = false) : writeEecon1 v s =
    if v.getLsbD 1 && !s.wr then eeWriteStart (storeEecon1 v s) else storeEecon1 v s := by
  have hread : (if v.getLsbD 0 then eeRead { s with eecon1 := eecon1After v s.eecon1 }
      else { s with eecon1 := eecon1After v s.eecon1 }) = storeEecon1 v s := by
    cases h0 : v.getLsbD 0
    · have hbit : putBit (eecon1After v s.eecon1) 0 false = eecon1After v s.eecon1 := by
        apply BitVec.eq_of_getLsbD_eq
        intro j hj
        rw [getLsbD_putBit]
        split
        · next h =>
          rw [← h.1, eecon1After_rd, h0, Bool.or_false]
          exact hrd.symm
        · rfl
      simp only [storeEecon1, h0, hbit, Bool.false_eq_true, if_false]
    · simp only [storeEecon1, h0, if_true]
      rfl
  simp only [writeEecon1, hread]

/-- A data EEPROM write starts: WR stays 1, address and data are captured, the unlock state is cleared. -/
theorem eeWriteStart_starts {s : State} (h : eeStarts s = true) : eeWriteStart s =
    { s with
      eecon1 := putBit s.eecon1 1 true
      eeUnlock := 0#2
      eeAddr := s.eeIndex
      eeData := s.eedata
      draws := (eeWriteStart s).draws } := by
  simp only [eeWriteStart, h, if_true]

/-- No data EEPROM write starts: WR is 0 again. -/
theorem eeWriteStart_not_starts {s : State} (h : eeStarts s = false) : eeWriteStart s =
    { s with eecon1 := putBit s.eecon1 1 false, draws := (eeWriteStart s).draws } := by
  simp only [eeWriteStart, h, Bool.false_eq_true, if_false]

/-- The fields of EECON1 and EEDATA after its write; WR apart. -/
abbrev Eecon1Stored (v : Byte) (s t : State) : Prop :=
  t = { s with
    eecon1 := t.eecon1, eedata := t.eedata, eeUnlock := t.eeUnlock, eeAddr := t.eeAddr,
    eeData := t.eeData, draws := t.draws } ∧
  t.eeif = v.getLsbD 4 ∧ t.wrerr = v.getLsbD 3 ∧ t.wren = v.getLsbD 2 ∧ t.rd = false ∧
  t.eedata = (if v.getLsbD 0 then s.ee.read (s.eeadr.extractLsb' 0 6).toNat else s.eedata)

/-- A write in progress is started by the write of EECON1. -/
abbrev WriteStarted (s t : State) : Prop :=
  t.wr = true ∧ t.eeUnlock = 0#2 ∧ t.eeAddr = s.eeadr.extractLsb' 0 6 ∧ t.eeData = t.eedata

/-- The write of EECON1 starts none, and leaves WR at `b`. -/
abbrev WriteNotStarted (b : Bool) (s t : State) : Prop :=
  t.wr = b ∧ t.eeUnlock = s.eeUnlock ∧ t.eeAddr = s.eeAddr ∧ t.eeData = s.eeData

/-- Everything a write of EECON1 can do: WR not set anew, or set anew with a start or without. -/
theorem writeEecon1_cases (v : Byte) {s : State} (hrd : s.rd = false) :
    Eecon1Stored v s (writeEecon1 v s) ∧
    (((s.wr = true ∨ v.getLsbD 1 = false) ∧ WriteNotStarted s.wr s (writeEecon1 v s)) ∨
      (s.wr = false ∧ v.getLsbD 1 = true ∧
        ((eeStarts (storeEecon1 v s) = true ∧ WriteStarted s (writeEecon1 v s)) ∨
          (eeStarts (storeEecon1 v s) = false ∧ WriteNotStarted false s (writeEecon1 v s))))) := by
  have hbit : ∀ {j}, 2 ≤ j → j < 5 → (storeEecon1 v s).eecon1.getLsbD j = v.getLsbD j :=
    fun h2 h5 => (getLsbD_storeEecon1 v s (by omega) h5).trans (if_neg (by omega))
  have hstart : ∀ {j} b, j ≠ 1 → (putBit (storeEecon1 v s).eecon1 1 b).getLsbD j =
      (storeEecon1 v s).eecon1.getLsbD j := fun b h1 => by
    rw [getLsbD_putBit, if_neg (by omega)]
  have hstored : ∀ b, (putBit (storeEecon1 v s).eecon1 1 b).getLsbD 4 = v.getLsbD 4 ∧
      (putBit (storeEecon1 v s).eecon1 1 b).getLsbD 3 = v.getLsbD 3 ∧
      (putBit (storeEecon1 v s).eecon1 1 b).getLsbD 2 = v.getLsbD 2 ∧
      (putBit (storeEecon1 v s).eecon1 1 b).getLsbD 0 = false := fun b =>
    ⟨(hstart b (by decide)).trans (hbit (by decide) (by decide)),
      (hstart b (by decide)).trans (hbit (by decide) (by decide)),
      (hstart b (by decide)).trans (hbit (by decide) (by decide)),
      (hstart b (by decide)).trans (storeEecon1_rd v s)⟩
  rw [writeEecon1_eq v hrd]
  by_cases hset : s.wr = false ∧ v.getLsbD 1 = true
  · obtain ⟨hwr, h1⟩ := hset
    rw [if_pos (by rw [h1, hwr]; rfl)]
    cases hs : eeStarts (storeEecon1 v s) with
    | true =>
      rw [eeWriteStart_starts hs]
      obtain ⟨h4, h3, h2, h0⟩ := hstored true
      exact ⟨⟨rfl, h4, h3, h2, h0, rfl⟩,
        .inr ⟨hwr, h1, .inl ⟨rfl, getLsbD_putBit _ 1 1 true, rfl, rfl, rfl⟩⟩⟩
    | false =>
      rw [eeWriteStart_not_starts hs]
      obtain ⟨h4, h3, h2, h0⟩ := hstored false
      exact ⟨⟨rfl, h4, h3, h2, h0, rfl⟩,
        .inr ⟨hwr, h1, .inr ⟨rfl, getLsbD_putBit _ 1 1 false, rfl, rfl, rfl⟩⟩⟩
  · have hcond : s.wr = true ∨ v.getLsbD 1 = false := by
      simpa only [not_and_or, Bool.not_eq_false, Bool.not_eq_true] using hset
    have hwr : (storeEecon1 v s).wr = s.wr := by
      refine (getLsbD_storeEecon1 v s (by decide) (by decide)).trans ?_
      rw [if_pos rfl]
      rcases hcond with h | h <;> rw [h]
      · rfl
      · exact Bool.or_false _
    rw [if_neg (by rcases hcond with h | h <;> rw [h] <;> simp)]
    exact ⟨⟨rfl, hbit (by decide) (by decide), hbit (by decide) (by decide),
      hbit (by decide) (by decide), storeEecon1_rd v s, rfl⟩, .inl ⟨hcond, hwr, rfl, rfl, rfl⟩⟩

/-- Whether the write starts: WREN as just stored, and the sequence complete or the free value (R260;
logs 10, 12, 13). -/
theorem eeStarts_storeEecon1 (v : Byte) (s : State) : eeStarts (storeEecon1 v s) =
    (v.getLsbD 2 && (eeSequenced s || Config.eeStartsUnsequenced s.draws)) :=
  congrArg (· && _) ((getLsbD_storeEecon1 v s (by decide) (by decide)).trans (if_neg (by decide)))

/-- BSF on EECON1, in Bank 1, writes EECON1 back with one bit set. -/
theorem exec_bsf_eecon1 (b : BitVec 3) {s : State} (hbank : s.rp0 = true) :
    exec (.bsf 0x08#7 b) s =
      .next (writeEecon1 (putBit (0#3 ++ s.eecon1 : BitVec 8) b.toNat true) (advance s)) := by
  have hea : ea 0x08#7 s = 0x88#8 := by
    rw [ea_direct (by decide), hbank]
    rfl
  rw [exec, execBsf, fileOperate_plainOut, hea]
  rfl

/-- A bit of EECON1 in the byte it reads as. -/
theorem getLsbD_eecon1_byte (e : BitVec 5) (j : Nat) (hj : j < 5) :
    (0#3 ++ e : BitVec 8).getLsbD j = e.getLsbD j := by
  rw [BitVec.getLsbD_append, if_pos hj]

/-! ### The unlock sequence (R260; log 12) -/

section Sequence

variable {s : State}

theorem sequenceAfter_first_movwf (hbank : s.rp0 = true) (h : s.eeSequence = 1#3) :
    sequenceAfter (.movwf 0x09#7) s = 2#3 := by
  simp [sequenceAfter, hbank, h]

theorem sequenceAfter_second_movlw (h : s.eeSequence = 2#3) :
    sequenceAfter (.movlw 0xAA#8) s = 3#3 := by
  simp [sequenceAfter, h]

theorem sequenceAfter_second_movwf (hbank : s.rp0 = true) (h : s.eeSequence = 3#3) :
    sequenceAfter (.movwf 0x09#7) s = 4#3 := by
  simp [sequenceAfter, hbank, h]

theorem sequenceAfter_bsf (hbank : s.rp0 = true) (h : s.eeSequence = 4#3) :
    sequenceAfter (.bsf 0x08#7 1#3) s = 5#3 := by
  simp [sequenceAfter, hbank, h]

/-- An instruction that answers goes before the rest of the list. -/
theorem execList_cons {i : Instr} {is : List Instr} {t : State}
    (h : exec i (countSequence i s) = .next t) : execList (i :: is) s = execList is t := by
  rw [execList, h]

/-- MOVLW, counted in the sequence. -/
theorem exec_movlw_counted {n : BitVec 3} (k : Byte) (hn : sequenceAfter (.movlw k) s = n) :
    exec (.movlw k) (countSequence (.movlw k) s) =
      .next { s with w := k, pc := s.pc + 1#13, cycles := s.cycles + 1, eeSequence := n } := by
  subst hn
  rfl

/-- MOVWF EECON2, counted in the sequence. -/
theorem exec_movwf_counted {n : BitVec 3} (hbank : s.rp0 = true)
    (hn : sequenceAfter (.movwf 0x09#7) s = n) :
    exec (.movwf 0x09#7) (countSequence (.movwf 0x09#7) s) =
      .next (writeEecon2 s.w
        { s with pc := s.pc + 1#13, cycles := s.cycles + 1, eeSequence := n }) := by
  subst hn
  exact exec_movwf_eecon2 (s := countSequence (.movwf 0x09#7) s) hbank

/-- The first four instructions of the sequence bring W to AAh, `ee_unlock` to 2 and the count to 4. -/
theorem execList_unlock (hbank : s.rp0 = true) (is : List Instr) : ∃ u,
    execList (.movlw 0x55#8 :: .movwf 0x09#7 :: .movlw 0xAA#8 :: .movwf 0x09#7 :: is) s =
      execList is u ∧
    u = { s with
      w := 0xAA#8, pc := u.pc, cycles := u.cycles, eeUnlock := 2#2, eeSequence := 4#3 } := by
  refine ⟨{ s with
    w := 0xAA#8
    pc := s.pc + 1#13 + 1#13 + 1#13 + 1#13
    cycles := s.cycles + 1 + 1 + 1 + 1
    eeUnlock := 2#2
    eeSequence := 4#3 }, ?_, rfl⟩
  exact (execList_cons (exec_movlw_counted (n := 1#3) 0x55#8 rfl)).trans
    ((execList_cons (exec_movwf_counted (by exact hbank)
        (sequenceAfter_first_movwf (by exact hbank) rfl))).trans
      ((execList_cons (exec_movlw_counted 0xAA#8 (sequenceAfter_second_movlw rfl))).trans
        (execList_cons (exec_movwf_counted (by exact hbank)
          (sequenceAfter_second_movwf (by exact hbank) rfl)))))

end Sequence

/-! ### The obligations -/

/-- Settles O57: RD set and WR left, so that the read is all that happens. -/
theorem eepromReadLoadsEedata : Obligations.EepromReadLoadsEedata := by
  unfold Obligations.EepromReadLoadsEedata
  intro s hbank hrd
  have hbit : ∀ j, j ≠ 0 → j < 5 →
      (putBit (0#3 ++ s.eecon1 : BitVec 8) 0 true).getLsbD j = s.eecon1.getLsbD j := fun j h0 h5 => by
    rw [getLsbD_putBit, if_neg (by omega), getLsbD_eecon1_byte _ _ h5]
  have hset : (putBit (0#3 ++ s.eecon1 : BitVec 8) 0 true).getLsbD 0 = true :=
    getLsbD_putBit _ 0 0 true
  have hexec := exec_bsf_eecon1 0#3 hbank
  change exec _ s = .next (writeEecon1 (putBit (0#3 ++ s.eecon1 : BitVec 8) 0 true) _) at hexec
  generalize putBit (0#3 ++ s.eecon1 : BitVec 8) 0 true = v at hbit hset hexec
  have hwr : v.getLsbD 1 = s.wr := hbit 1 (by decide) (by decide)
  have heecon1 : (storeEecon1 v (advance s)).eecon1 = s.eecon1 := by
    apply BitVec.eq_of_getLsbD_eq
    intro j hj
    by_cases h0 : j = 0
    · subst h0
      exact (storeEecon1_rd v _).trans hrd.symm
    · rw [getLsbD_storeEecon1 v _ h0 hj]
      split
      · next h1 => rw [hwr, h1]; exact Bool.or_self _
      · exact hbit j h0 hj
  have hstore : storeEecon1 v (advance s) =
      { advance s with
        eecon1 := (storeEecon1 v (advance s)).eecon1
        eedata := s.ee.read (s.eeadr.extractLsb' 0 6).toNat } := by
    simp only [storeEecon1, hset, if_true]
    rfl
  rw [hexec, writeEecon1_eq v (s := advance s) hrd, if_neg (by rw [hwr]; simp [State.wr]), hstore,
    heecon1]
  rfl

/-- Settles O58: the three ways of a write of EECON1, and `ee_unlock` after one of EECON2. -/
theorem eepromControlWrites : Obligations.EepromControlWrites := by
  unfold Obligations.EepromControlWrites
  refine ⟨?eecon1, ?eecon2⟩
  case eecon1 =>
    rintro affects v s _ hrd rfl
    obtain ⟨⟨hframe, h4, h3, h2, h0, hdata⟩, hcases⟩ := writeEecon1_cases v hrd
    have hset : s.wr = false → v.getLsbD 1 = true →
        (eeStarts (storeEecon1 v s) = true ∧ WriteStarted s (writeEecon1 v s)) ∨
        (eeStarts (storeEecon1 v s) = false ∧ WriteNotStarted false s (writeEecon1 v s)) :=
      fun hwr h1 => by
        obtain ⟨h, -⟩ | ⟨-, -, h⟩ := hcases
        · rcases h with h | h
          · cases hwr.symm.trans h
          · cases h1.symm.trans h
        · exact h
    refine ⟨hframe, h4, h3, h2, h0, hdata, fun h => ?kept, fun hwr h1 hwren => ?disabled,
      fun hwr h1 hwren hu hseq => ?sequenced, fun hwr h1 _ _ => ?free⟩
    case kept =>
      obtain ⟨-, hn⟩ | ⟨hwr, h1, -⟩ := hcases
      · exact hn
      · rcases h with h | h
        · cases hwr.symm.trans h
        · cases h1.symm.trans h
    case disabled =>
      obtain ⟨hs, -⟩ | ⟨-, hn⟩ := hset hwr h1
      · rw [eeStarts_storeEecon1, hwren] at hs
        cases hs
      · exact hn
    case sequenced =>
      obtain ⟨-, hn⟩ | ⟨hs, -⟩ := hset hwr h1
      · exact hn
      · rw [eeStarts_storeEecon1, hwren, eeSequenced, hu, hseq] at hs
        cases hs
    case free => exact (hset hwr h1).imp And.right And.right
  case eecon2 =>
    rintro affects v s _ rfl
    refine ⟨rfl, fun h => if_pos h, fun h hu => ?_, fun h h' => ?_⟩
    · change (writeEecon2 v s).eeUnlock = 2#2
      simp [writeEecon2, h, hu]
    · exact (if_neg h).trans (if_neg fun hAA => h' hAA.1 hAA.2)

/-- Settles O59: the fifth instruction sets WR with the sequence complete. -/
theorem eepromUnlockSequenceStartsWrite : Obligations.EepromUnlockSequenceStartsWrite := by
  unfold Obligations.EepromUnlockSequenceStartsWrite
  intro s hbank hrd hwr
  obtain ⟨u, hfour, hu⟩ := execList_unlock hbank [.bsf 0x08#7 1#3]
  have hubank : u.rp0 = true := by rw [hu]; exact hbank
  have hurd : u.rd = false := by rw [hu]; exact hrd
  have huwr : u.wr = false := by rw [hu]; exact hwr
  have huwren : u.wren = s.wren := by rw [hu]; rfl
  have hcount : sequenceAfter (.bsf 0x08#7 1#3) u = 5#3 := sequenceAfter_bsf hubank (by rw [hu])
  have hbit : ∀ j, j ≠ 1 → j < 5 → (putBit (0#3 ++ u.eecon1 : BitVec 8) 1 true).getLsbD j =
      u.eecon1.getLsbD j := fun j h1 h5 => by
    rw [getLsbD_putBit, if_neg (by omega), getLsbD_eecon1_byte _ _ h5]
  have hset : (putBit (0#3 ++ u.eecon1 : BitVec 8) 1 true).getLsbD 1 = true :=
    getLsbD_putBit _ 1 1 true
  have hbsf := exec_bsf_eecon1 1#3 (s := countSequence (.bsf 0x08#7 1#3) u) hubank
  obtain ⟨hwrite, -⟩ := eepromControlWrites
  obtain ⟨-, -, -, -, -, hdata, -, hdisabled, hsequenced, -⟩ := hwrite false
    (putBit (0#3 ++ u.eecon1 : BitVec 8) 1 true) (advance (countSequence (.bsf 0x08#7 1#3) u)) _
    hurd rfl
  rw [if_neg (by rw [hbit 0 (by decide) (by decide)]; exact Bool.eq_false_iff.mp hurd)] at hdata
  refine ⟨_, hfour.trans (execList_cons hbsf), (writeEecon1_w _ _).trans (by rw [hu]; rfl),
    hdata.trans (by rw [hu]; rfl), (writeEecon1_eeadr _ _).trans (by rw [hu]; rfl),
    (writeEecon1_ee _ _).trans (by rw [hu]; rfl), fun hwren => ?_, fun hwren => ?_⟩
  · obtain ⟨ht, hunlock, haddr, hcaptured⟩ := hsequenced huwr hset
      ((hbit 2 (by decide) (by decide)).trans (huwren.trans hwren)) (by rw [hu]; rfl) hcount
    exact ⟨ht, hunlock, haddr.trans (by rw [hu]; rfl),
      hcaptured.trans (hdata.trans (by rw [hu]; rfl))⟩
  · obtain ⟨ht, -, haddr, hcaptured⟩ := hdisabled huwr hset
      ((hbit 2 (by decide) (by decide)).trans (huwren.trans hwren))
    exact ⟨ht, haddr.trans (by rw [hu]; rfl), hcaptured.trans (by rw [hu]; rfl)⟩

/-- Settles O60: the captured byte at the captured address, and WR and EEIF bit by bit. -/
theorem eepromWriteCompletes : Obligations.EepromWriteCompletes := by
  unfold Obligations.EepromWriteCompletes
  refine ⟨?completes, fun s hwr => ?none⟩
  case completes =>
    rintro s _ hwf hwr rfl
    rw [agentStep, eeWriteDone, if_pos hwr]
    have hbit : ∀ j, j ≠ 1 → j ≠ 4 → (putBit (putBit s.eecon1 1 false) 4 true).getLsbD j =
        s.eecon1.getLsbD j := fun j h1 h4 => by
      rw [getLsbD_putBit, if_neg (by omega), getLsbD_putBit, if_neg (by omega)]
    exact ⟨Memory.read_write_same _ _ _ hwf, fun n hn => Memory.read_write_other _ _ hn,
      (getLsbD_putBit _ 4 1 true).trans (getLsbD_putBit s.eecon1 1 1 false),
      getLsbD_putBit _ 4 4 true, hbit 2 (by decide) (by decide), hbit 3 (by decide) (by decide), rfl⟩
  case none => rw [agentStep, eeWriteDone, if_neg (by simp [hwr])]

end Sys2Proof.Machine
end
